-- ==== Sys2Proof/Word.lean ====
section
/-! DEFINITION. The word types of the block: a byte, a sequence of bytes (spec/00_scope.md R10, R11). -/

namespace Sys2Proof

/-- A byte, bit 0 its least significant bit (R10). -/
abbrev Byte := BitVec 8

/-- A sequence of bytes (R11): a buffer, a frame, an operand string, a command. -/
abbrev Bytes := List Byte

end Sys2Proof
end

