-- ==== Sys2Proof/Machine/ByteOrder.lean ====
section
/-! DEFINITION. Bit fields and byte order: the notation of spec/00_scope.md R10 and the big-endian assembly of
spec/20_memory.md R63, R64 and spec/30_encoding.md R101. -/

namespace Sys2Proof

/-- `hi8(v) = v[15:8]` (R10). -/
def hi8 (v : BitVec 16) : Byte := v.extractLsb' 8 8

/-- `lo8(v) = v[7:0]` (R10). -/
def lo8 (v : BitVec 16) : Byte := v.extractLsb' 0 8

/-- `u16be(h, l) = h * 256 + l` (R10). -/
def u16be (h l : Byte) : BitVec 16 := h ++ l

/-- A 16-bit value as two bytes, high first (R63, R107). -/
def be16 (v : BitVec 16) : Bytes := [hi8 v, lo8 v]

/-- `u32be(b0, b1, b2, b3)`, `b0` most significant (R10). -/
def u32be (b0 b1 b2 b3 : Byte) : BitVec 32 := b0 ++ b1 ++ b2 ++ b3

/-- `be32(v)`: four bytes, most significant first (R10, R64). -/
def be32 (v : BitVec 32) : Bytes :=
  [v.extractLsb' 24 8, v.extractLsb' 16 8, v.extractLsb' 8 8, v.extractLsb' 0 8]

/-- `par8(b)`: the XOR of the eight bits of a byte (R10). -/
def par8 (b : Byte) : Bool :=
  b[0] ^^ b[1] ^^ b[2] ^^ b[3] ^^ b[4] ^^ b[5] ^^ b[6] ^^ b[7]

/-- The 16-bit value of a natural number, truncated: how `ERR.INFO` takes a length (spec/60_exceptions.md R386). -/
def info16 (n : Nat) : BitVec 16 := BitVec.ofNat 16 n

/-- The 48-bit packet body as a register value, byte 0 in bits 47:40 (spec/30_encoding.md R93). -/
def body48 (port ptype : Byte) (address param : BitVec 16) : BitVec 48 :=
  port ++ ptype ++ address ++ param

/-- The six bytes of a 48-bit packet body, byte 0 (bits 47:40) first (R93). -/
def bytes48 (v : BitVec 48) : Bytes :=
  [v.extractLsb' 40 8, v.extractLsb' 32 8, v.extractLsb' 24 8,
    v.extractLsb' 16 8, v.extractLsb' 8 8, v.extractLsb' 0 8]

end Sys2Proof
end

