-- ==== Sys2Proof/Config.lean ====
section
/-! DEFINITION. The implementation parameters of spec/00_scope.md R9: the constants of the block, the parameter set an
instance is built with, and the one value the spec leaves open. -/

namespace Sys2Proof

/-- Which transport the exchange unit uses (spec/10_state.md R21, `CFG.TRANSPORT`). -/
inductive Transport where
  | ser9   -- 0, 9-bit serial emulation
  | pjon   -- 1
  deriving DecidableEq, Repr

/-- The parameter set of one instance: what R9 leaves OPEN (with `RETRY_PACKET`), the model's argument. `MAXBUF` is
the capacity of each buffer in bytes. -/
structure Params where
  transport      : Transport
  spacemark      : Bool
  retryPacket    : BitVec 8
  interbyteDelay : BitVec 32
  eopIdleTicks   : BitVec 32
  rxTimeoutTicks : BitVec 32
  baud           : BitVec 32
  deviceId       : Byte
  targetId       : Byte
  maxbuf         : Nat
  deriving DecidableEq, Repr

/-- A legal parameter set: timeouts of at least one tick (spec/10_state.md R22), `MAXBUF` of at least 255
(spec/70_reset_and_hazards.md R423). The model refuses to instantiate any other. -/
def Params.legal (p : Params) : Bool :=
  p.eopIdleTicks != 0 && p.rxTimeoutTicks != 0 && decide (255 ≤ p.maxbuf)

namespace Config

/-- The parameters of the instance that `State.reset` is. DESIGN CHOICE (log entry 2, unsafe): R9 leaves them OPEN but
for `RETRY_PACKET`, whose default 2 is the spec's; the values are those of program P1 and of the PJON vectors of
spec/95_test_vectors.md. No statement rests on them: every one is for all parameters. -/
def defaultParams : Params where
  transport := .ser9
  spacemark := false
  retryPacket := 2
  interbyteDelay := 1
  eopIdleTicks := 20
  rxTimeoutTicks := 1000
  baud := 0
  deviceId := 0x01
  targetId := 0x0A
  maxbuf := 255

/-- `CHK16_MOD`, the modulus of the additive checksum (R9; spec/40_chk16.md R136 asks for a named constant). -/
def chk16Mod : Nat := 65535

/-- `SER9_MIN_FRAME` (R9). -/
def ser9MinFrame : Nat := 3

/-- `START` (R9, spec/42_pjon_escape.md R180). -/
def startByte : Byte := 0x95

/-- `END` (R9, R180). -/
def endByte : Byte := 0xEA

/-- `ESC` (R9, R180). -/
def escByte : Byte := 0xBB

/-- `CRC8_POLY` (R9). -/
def crc8Poly : Byte := 0x97

/-- `CRC8_INIT` (R9). -/
def crc8Init : Byte := 0x00

/-- `CRC32_POLY` (R9). -/
def crc32Poly : BitVec 32 := 0xEDB88320

/-- `CRC32_INIT` (R9). -/
def crc32Init : BitVec 32 := 0xFFFFFFFF

/-- `CRC32_XOROUT` (R9). -/
def crc32Xorout : BitVec 32 := 0xFFFFFFFF

/-- `CRC32_THRESHOLD` (R9). -/
def crc32Threshold : Nat := 15

/-- The header bits that no supported header has set: 0, 2, 3, 4, 6, 7 (spec/43_pjon_frame.md R209 (a)). -/
def hdrUnsupported : Byte := 0xDD

/-- The header of a CRC8 frame: `HDR_TXINFO` (spec/30_encoding.md R98). -/
def hdrCrc8 : Byte := 0x02

/-- The header of a CRC32 frame: `HDR_TXINFO` and `HDR_CRC` (R98). -/
def hdrCrc32 : Byte := 0x22

/-- `BROADCAST_ID` (R9). -/
def broadcastId : Byte := 0x00

/-- The largest PJON payload (spec/43_pjon_frame.md R201). -/
def pjonMaxPayload : Nat := 246

/-- `PORT_MAX` (R9). -/
def portMax : Nat := 9

/-- `TYPE_READ` (R9, spec/30_encoding.md R94). -/
def typeRead : Byte := 2

/-- `TYPE_WRITE` (R9, R94). -/
def typeWrite : Byte := 3

/-- `TYPE_STATUS` (R9, R94). -/
def typeStatus : Byte := 4

/-- `TYPE_LOG` (R9, R94). -/
def typeLog : Byte := 22

/-- FREE VALUE: the length field of an answer with more than 65535 result bytes, which spec/30_encoding.md R107's two
bytes cannot hold (only possible when `MAXBUF` exceeds 32766). DESIGN CHOICE, log entry 11, safe. -/
opaque freeRspLength : Nat → BitVec 16

end Config

end Sys2Proof
end

