-- ==== Sys2Proof/Machine/State.lean ====
section
/-! DEFINITION. The state of the block (spec/10_state.md R20 to R35) as plain data, its reset values (R41), the line and
input events, and the ways a step can stop. -/

namespace Sys2Proof.Machine

/-- The error kinds, codes 0 to 15 in this order (spec/60_exceptions.md R380). `none` is the spec's `None`, success. -/
inductive ErrKind where
  | none
  | noResponse
  | checksumMismatch
  | headerCrcMismatch
  | payloadCrcMismatch
  | frameTooShort
  | unsupportedHeaderBit
  | invalidCommandAck
  | deviceNotFound
  | notAddressedToUs
  | remoteError
  | lengthMismatch
  | malformedFrame
  | illegalOp
  | illegalOperand
  | busy
  deriving DecidableEq, Repr

/-- The parity modes of the line hardware (spec/44_serial9.md R241). -/
inductive ParityMode where
  | even
  | odd
  | mark
  | space
  deriving DecidableEq, Repr

/-- What `S9.PMODE` holds (R30): a programmed mode, or `UNKNOWN` before the first mode write. -/
inductive PModeReg where
  | unknown
  | known (m : ParityMode)
  deriving DecidableEq, Repr

/-- `ESC.STATE` (R28). -/
inductive EscState where
  | hunt      -- 0
  | body      -- 1
  | escaped   -- 2
  deriving DecidableEq, Repr

/-- `PJF.RXSTATE` (R29). -/
inductive PjfRxState where
  | off       -- 0
  | listen    -- 1
  deriving DecidableEq, Repr

/-- `T9.STATE` (R31). -/
inductive T9State where
  | off         -- 0
  | waitFirst   -- 1
  | collect     -- 2
  deriving DecidableEq, Repr

/-- `XCH.STATE` (R33). -/
inductive XchState where
  | idle               -- 0
  | sending            -- 1
  | awaitingResponse   -- 2
  | validating         -- 3
  | retry              -- 4
  | done               -- 5
  | failed             -- 6
  deriving DecidableEq, Repr

/-- Which exchange operation runs: what becomes of the payload at its end (implied by spec/47_exchange.md R335, R336;
DESIGN CHOICE, log entry 14). -/
inductive XchOp where
  | send
  | query
  | control
  deriving DecidableEq, Repr

/-- An element of `RXQ`: a character of the 9-bit line or a byte of the PJON line (R35). -/
inductive RxItem where
  | char (c : BitVec 11)
  | byte (b : Byte)
  deriving DecidableEq, Repr

/-- An event on `line_tx` (spec/44_serial9.md R249). -/
inductive LineEvent where
  | pmode (m : ParityMode)
  | char (c : BitVec 11)
  | flush
  | delay (n : BitVec 32)
  | byteOut (b : Byte)
  deriving DecidableEq, Repr

/-- An input event: the four kinds of spec/60_exceptions.md R395, and a power-on reset with a parameter set
(spec/70_reset_and_hazards.md R420, spec/10_state.md R22; DEDUCED, log entry 3). -/
inductive Event where
  | cmd (bytes : Bytes)
  | tick
  | rxChar (c : BitVec 11)
  | rxByte (b : Byte)
  | powerOn (p : Params)
  deriving DecidableEq, Repr

/-- The configuration registers `CFG.*` (R21). -/
structure Cfg where
  transport      : Transport
  spacemark      : Bool
  retryPacket    : BitVec 8
  interbyteDelay : BitVec 32
  eopIdle        : BitVec 32
  rxTimeout      : BitVec 32
  baud           : BitVec 32
  deviceId       : Byte
  targetId       : Byte
  deriving DecidableEq, Repr

/-- The `CFG` registers as loaded from the parameters of the same names (R21). -/
def Cfg.load (p : Params) : Cfg where
  transport := p.transport
  spacemark := p.spacemark
  retryPacket := p.retryPacket
  interbyteDelay := p.interbyteDelay
  eopIdle := p.eopIdleTicks
  rxTimeout := p.rxTimeoutTicks
  baud := p.baud
  deviceId := p.deviceId
  targetId := p.targetId

/-- The state of the block, and the model's own fields (the last group). -/
structure State where
  /-- the parameters of the instance (spec/00_scope.md R9); `maxbuf` is read from here -/
  params : Params
  /-- `CFG.*` (R21) -/
  cfg : Cfg
  /-- `CHK16.ACC` (R23) -/
  chk16Acc : BitVec 16
  /-- `CRC8.REG` (R24) -/
  crc8Reg : BitVec 8
  /-- `CRC32.REG`, before the final XOR (R25) -/
  crc32Reg : BitVec 32
  /-- `TXBUF` (R26) -/
  txbuf : Bytes
  /-- `RXBUF` (R27) -/
  rxbuf : Bytes
  /-- `RXTAG` (R27) -/
  rxtag : List Bool
  /-- `ESC.STATE` (R28) -/
  escState : EscState
  /-- `PJF.RXSTATE` (R29) -/
  pjfRxstate : PjfRxState
  /-- `PJF.TIMER` (R29) -/
  pjfTimer : BitVec 32
  /-- `PJF.SENDER` (R29) -/
  pjfSender : Byte
  /-- `PJF.HDR` (R29) -/
  pjfHdr : Byte
  /-- the operand `t` of the running `PJON.RECV` (implied by spec/43_pjon_frame.md R214; DESIGN CHOICE, log entry 14) -/
  pjfTimeout : BitVec 32
  /-- `S9.PMODE` (R30) -/
  s9Pmode : PModeReg
  /-- `S9.FERR` (R30) -/
  s9Ferr : Bool
  /-- `T9.STATE` (R31) -/
  t9State : T9State
  /-- `T9.TIMER` (R31) -/
  t9Timer : BitVec 32
  /-- `T9.EXPLEN` (R31) -/
  t9Explen : Option (BitVec 16)
  /-- `T9.OVF` (R31) -/
  t9Ovf : Bool
  /-- `XCH.STATE` (R33) -/
  xchState : XchState
  /-- which exchange operation runs (DESIGN CHOICE, log entry 14) -/
  xchOp : XchOp
  /-- `XCH.RETRIES` (R33) -/
  xchRetries : BitVec 8
  /-- `XCH.ATTEMPTS` (R33) -/
  xchAttempts : BitVec 9
  /-- `XCH.REQ` (R33) -/
  xchReq : BitVec 48
  /-- `XCH.EXPLEN` (R33) -/
  xchExplen : Option (BitVec 16)
  /-- `XCH.LASTERR`, kind and info (R33; DEDUCED, log entry 15) -/
  xchLasterr : Option (ErrKind × BitVec 16)
  /-- `XCH.RESP` (R33) -/
  xchResp : Bytes
  /-- `ERR.KIND` (R34) -/
  errKind : ErrKind
  /-- `ERR.INFO` (R34) -/
  errInfo : BitVec 16
  /-- `RXQ`, oldest first (R35 (a)) -/
  rxq : List RxItem
  /-- the model's own: `RXBUF` is a frame that a receive returned (R39; DEDUCED, log entry 10) -/
  rxbufValid : Bool
  /-- the model's own: `PJF.SENDER` comes from a successful parse (R39; DEDUCED, log entry 9) -/
  pjfSenderValid : Bool
  /-- the model's own: the pending input events, oldest first (spec/60_exceptions.md R395; DESIGN CHOICE, log entry
  1) -/
  events : List Event
  /-- the model's own: the byte strings sent on `rsp`, oldest first (spec/30_encoding.md R107; DESIGN CHOICE, log entry
  4) -/
  rsp : List Bytes
  /-- the model's own: the events emitted on `line_tx`, oldest first (R249; DESIGN CHOICE, log entry 4) -/
  lineTx : List LineEvent
  deriving DecidableEq, Repr

/-- A step of the block never stops with a fault: every error of spec/60_exceptions.md is an answer on `rsp` and a next
state (R385), so this type has no value. -/
inductive Fault where
  deriving DecidableEq, Repr

/-- Why a step has no next state. -/
inductive Refusal where
  /-- Raised by `exec` for an operation that has no meaning in the model yet; no arm answers with it. Safe. -/
  | notModelled (mnemonic : String)
  /-- Raised by a power-on reset with an illegal parameter set: "the model refuses to instantiate it"
  (spec/10_state.md R22). Safe: the spec gives such an instance no behaviour. -/
  | illegalParameters
  deriving DecidableEq, Repr

/-- The block right after reset, for one parameter set (R41), with nothing pending and nothing sent. -/
def State.ofParams (p : Params) : State where
  params := p
  cfg := Cfg.load p
  chk16Acc := 0x0000
  crc8Reg := 0x00
  crc32Reg := 0xFFFFFFFF
  txbuf := []
  rxbuf := []
  rxtag := []
  escState := .hunt
  pjfRxstate := .off
  pjfTimer := 0
  pjfSender := 0x00
  pjfHdr := 0x00
  pjfTimeout := 0
  s9Pmode := .unknown
  s9Ferr := false
  t9State := .off
  t9Timer := 0
  t9Explen := none
  t9Ovf := false
  xchState := .idle
  xchOp := .send
  xchRetries := 0
  xchAttempts := 0
  xchReq := 0
  xchExplen := none
  xchLasterr := none
  xchResp := []
  errKind := .none
  errInfo := 0
  rxq := []
  rxbufValid := false
  pjfSenderValid := false
  events := []
  rsp := []
  lineTx := []

/-- The machine right after reset, with the parameters of `Config.defaultParams` (R41; DESIGN CHOICE, log entry 2). -/
def State.reset : State := State.ofParams Config.defaultParams

end Sys2Proof.Machine
end

