-- ==== Sys2Proof/Machine/Flags.lean ====
section
/-! DEFINITION. The codes of the enumerated registers, and the status indications of the block: `ERR.KIND` with
`ERR.INFO`, `S9.FERR`, `T9.OVF` (spec/10_state.md R38). There are no arithmetic condition codes. -/

namespace Sys2Proof.Machine

/-- The code of an error kind in `ERR.KIND` and on `rsp` (spec/60_exceptions.md R380). -/
def ErrKind.code : ErrKind → BitVec 4
  | .none => 0
  | .noResponse => 1
  | .checksumMismatch => 2
  | .headerCrcMismatch => 3
  | .payloadCrcMismatch => 4
  | .frameTooShort => 5
  | .unsupportedHeaderBit => 6
  | .invalidCommandAck => 7
  | .deviceNotFound => 8
  | .notAddressedToUs => 9
  | .remoteError => 10
  | .lengthMismatch => 11
  | .malformedFrame => 12
  | .illegalOp => 13
  | .illegalOperand => 14
  | .busy => 15

/-- The error kind of a code: `ErrKind.code` read back, as the host reads an answer on `rsp` (R380). -/
def ErrKind.ofCode (c : BitVec 4) : ErrKind :=
  ([.none, .noResponse, .checksumMismatch, .headerCrcMismatch, .payloadCrcMismatch, .frameTooShort,
    .unsupportedHeaderBit, .invalidCommandAck, .deviceNotFound, .notAddressedToUs, .remoteError, .lengthMismatch,
    .malformedFrame, .illegalOp, .illegalOperand] : List ErrKind).getD c.toNat .busy

/-- Whether an exchange tries again after a receive that raised this kind: the last column of R380 (R325). A kind no
receive raises is not retried. -/
def ErrKind.retryable : ErrKind → Bool
  | .noResponse => true
  | .checksumMismatch => true
  | .headerCrcMismatch => true
  | .payloadCrcMismatch => true
  | .remoteError => true
  | .lengthMismatch => true
  | .malformedFrame => true
  | .none => false
  | .frameTooShort => false
  | .unsupportedHeaderBit => false
  | .invalidCommandAck => false
  | .deviceNotFound => false
  | .notAddressedToUs => false
  | .illegalOp => false
  | .illegalOperand => false
  | .busy => false

/-- The code of `XCH.STATE` (R33), which is `ERR.INFO` of a `Busy` refusal (R380). -/
def XchState.code : XchState → BitVec 3
  | .idle => 0
  | .sending => 1
  | .awaitingResponse => 2
  | .validating => 3
  | .retry => 4
  | .done => 5
  | .failed => 6

/-- The code of a parity mode (spec/44_serial9.md R241). -/
def ParityMode.code : ParityMode → Byte
  | .even => 0
  | .odd => 1
  | .mark => 2
  | .space => 3

/-- Write both error registers (R34). -/
def State.withErr (k : ErrKind) (info : BitVec 16) (s : State) : State :=
  { s with errKind := k, errInfo := info }

/-- Set the sticky framing-error flag (R30). -/
def State.setFerr (s : State) : State := { s with s9Ferr := true }

/-- Write the receive-overflow flag (R31). -/
def State.withOvf (v : Bool) (s : State) : State := { s with t9Ovf := v }

end Sys2Proof.Machine
end

