-- ==== Sys2Proof/Machine/Ops.lean ====
section
/-! DEFINITION. The shared operations: how a command is answered, refused or raises an error (spec/60_exceptions.md
R384 to R386, spec/30_encoding.md R107), the buffers (spec/20_memory.md R62), the line trace, the guarded reads of
spec/10_state.md R39, and reset (spec/70_reset_and_hazards.md R420). -/

namespace Sys2Proof.Machine

/-- How an operation ends: with a byte string (`tag` 1), with the absent value `None` (`tag` 0), with a result-less
success (`tag` 2), or with `raise Kind(info)` (R107, R386). -/
inductive OpResult where
  | value (bs : Bytes)
  | noValue
  | void
  | err (k : ErrKind) (info : BitVec 16)
  deriving DecidableEq, Repr

/-- The 16-bit length field of an answer (R107); a free value where the length does not fit it (DESIGN CHOICE, log
entry 11). -/
def rspLength (n : Nat) : BitVec 16 :=
  if n < 65536 then BitVec.ofNat 16 n else Config.freeRspLength n

/-- `[kind][info_hi][info_lo][tag][n_hi][n_lo]` and the result bytes (R107). -/
def rspBytes (k : ErrKind) (info : BitVec 16) (tag : Byte) (bs : Bytes) : Bytes :=
  k.code.zeroExtend 8 :: (be16 info ++ tag :: (be16 (rspLength bs.length) ++ bs))

/-- The answer to an operation that ended (R107, R386). -/
def OpResult.rsp : OpResult → Bytes
  | .value bs => rspBytes .none 0 1 bs
  | .noValue => rspBytes .none 0 0 []
  | .void => rspBytes .none 0 2 []
  | .err k info => rspBytes k info 0 []

/-- Send one byte string on `rsp`. -/
def State.pushRsp (bs : Bytes) (s : State) : State := { s with rsp := s.rsp ++ [bs] }

/-- `emit(e)` for each event, in order (spec/00_scope.md R12). -/
def State.emit (evs : List LineEvent) (s : State) : State := { s with lineTx := s.lineTx ++ evs }

/-- `XCH.STATE` is one in which an exchange runs: not `Idle`, `Done` or `Failed` (spec/47_exchange.md R338). -/
def State.inExchange (s : State) : Bool :=
  match s.xchState with
  | .idle | .done | .failed => false
  | .sending | .awaitingResponse | .validating | .retry => true

/-- The block is busy: an exchange or a receive is in progress (R338). -/
def State.busy (s : State) : Bool :=
  s.inExchange || s.t9State != .off || s.pjfRxstate == .listen

/-- TAKING AN EXCEPTION: the register writes of `raise Kind(info)` (R386). There is no transfer of control, no saved
context and no return (R385); what the enclosing operation does with it, and the answer on `rsp`, come after. -/
def State.raise (k : ErrKind) (info : BitVec 16) (s : State) : State :=
  { s with
    errKind := k
    errInfo := info
    xchLasterr := if s.inExchange then some (k, info) else s.xchLasterr }

/-- The end of an operation that a command started: an uncaught error is raised, a success clears the error registers
(DEDUCED, log entry 5), and the answer goes out on `rsp` (R386). -/
def State.answer (r : OpResult) (s : State) : State :=
  match r with
  | .err k info => (s.raise k info).pushRsp r.rsp
  | .value _ | .noValue | .void => (s.withErr .none 0).pushRsp r.rsp

/-- `refuse Kind`: the command is rejected before it changes anything; the error registers record it unless the block
is busy (R384). -/
def State.refuse (k : ErrKind) (info : BitVec 16) (s : State) : State :=
  (if s.busy then s else s.withErr k info).pushRsp (OpResult.err k info).rsp

/-- The second check of R384: every operation but `RESET` is refused with `Busy`, its info `XCH.STATE`, while the block
is busy (R338, R380). -/
def State.whenIdle (s : State) (run : State → State) : Host.Outcome State Fault Refusal :=
  .next (if s.busy then s.refuse .busy (s.xchState.code.zeroExtend 16) else run s)

/-- The third check of R384, for the limits an operation's own rule puts on its operands. -/
def State.whenLegal (legal : Bool) (run : State → State) (s : State) : State :=
  if legal then run s else s.refuse .illegalOperand 0

/-! The buffers (R62). -/

/-- `BufClear(TXBUF); BufAppend(TXBUF, F)`. -/
def State.setTxbuf (f : Bytes) (s : State) : State := { s with txbuf := f }

/-- `BufClear(RXBUF)` with `RXTAG`, which has the same length (R27; DEDUCED, log entry 8). -/
def State.clearRx (s : State) : State := { s with rxbuf := [], rxtag := [], rxbufValid := false }

/-- `BufAppend(RXBUF, [d])` with `BufAppend(RXTAG, [a])` (R27; DEDUCED, log entry 8). -/
def State.appendRx (a : Bool) (d : Byte) (s : State) : State :=
  { s with rxbuf := s.rxbuf ++ [d], rxtag := s.rxtag ++ [a], rxbufValid := false }

/-- `BufTruncate` of `RXBUF` and, alike, of `RXTAG` (R62, spec/45_transport9.md R282). -/
def State.truncateRx (n : Nat) (s : State) : State :=
  { s with rxbuf := s.rxbuf.take n, rxtag := s.rxtag.take n }

/-- There is no room for one more byte in `RXBUF` (R62). -/
def State.rxFull (s : State) : Bool := decide (s.params.maxbuf ≤ s.rxbuf.length)

/-! The reads that yield no value where the register holds none (R39). -/

/-- `XCH.RESP`, valid only in `Done` (R39). -/
def State.readXchResp (s : State) : Option Bytes :=
  if s.xchState = .done then some s.xchResp else none

/-- `RXBUF`, a frame only after a receive returned data (R39; DEDUCED, log entry 10). -/
def State.readRxbuf (s : State) : Option Bytes :=
  if s.rxbufValid then some s.rxbuf else none

/-- `PJF.SENDER`, meaningful only after a successful `PJON.PARSE` (R39; DEDUCED, log entry 9). -/
def State.readPjfSender (s : State) : Option Byte :=
  if s.pjfSenderValid then some s.pjfSender else none

/-! Reset. -/

/-- Every register and buffer takes its reset value and `CFG.*` the parameters; a running operation is abandoned and
`RXQ` is emptied (R420). What was sent and what is still to arrive is not the block's (DESIGN CHOICE, log entry 4). -/
def State.resetWith (p : Params) (s : State) : State :=
  { State.ofParams p with events := s.events, rsp := s.rsp, lineTx := s.lineTx }

end Sys2Proof.Machine
end

