-- ==== Sys2Proof/Machine/Operands.lean ====
section
/-! DEFINITION. The operand limits that the operations' rules state, and only they (spec/60_exceptions.md R384, check 3;
DEDUCED, log entry 17), and the
addressing mode of the block: byte strings read from index 0 (spec/20_memory.md R77). -/

namespace Sys2Proof.Machine

/-- A byte string no longer than `MAXBUF` (spec/40_chk16.md R139 and the rules that repeat it). -/
def State.stringLegal (bs : Bytes) (s : State) : Bool := decide (bs.length ≤ s.params.maxbuf)

/-- The data of a 9-bit frame: not empty, and with its two check bytes no longer than `MAXBUF` (spec/45_transport9.md
R271). -/
def State.t9DataLegal (d : Bytes) (s : State) : Bool :=
  decide (d ≠ []) && decide (d.length + 2 ≤ s.params.maxbuf)

/-- The payload of a PJON frame (spec/43_pjon_frame.md R203). -/
def pjonPayloadLegal (p : Bytes) : Bool := decide (p.length ≤ Config.pjonMaxPayload)

/-- A timeout operand (spec/30_encoding.md R104, format R: `t >= 1`). -/
def timeoutLegal (t : BitVec 32) : Bool := t != 0

/-- A packet type code (R94). -/
def packetTypeLegal (ty : Byte) : Bool :=
  ty == Config.typeRead || ty == Config.typeWrite || ty == Config.typeStatus || ty == Config.typeLog

/-- The port and type of a packet (spec/46_packet_codec.md R301). -/
def packetLegal (port ty : Byte) : Bool :=
  decide (port.toNat ≤ Config.portMax) && packetTypeLegal ty

/-- The first `e + 2` bytes of a capture, where an expected length is given (spec/45_transport9.md R282). -/
def trimLength (e : Option (BitVec 16)) (n : Nat) : Nat :=
  match e with
  | some v => min n (v.toNat + 2)
  | none => n

end Sys2Proof.Machine
end

