-- ==== Sys2Proof/Machine/Crc.lean ====
section
/-! DEFINITION. `CRC8` and `CRC32`, the PJON cyclic redundancy engines (spec/41_crc8_crc32.md; what its rules take from
general knowledge is PRESUMED, log entry 21). -/

namespace Sys2Proof.Machine

/-- `n` of the eight bit steps of `roll8` (R151). -/
def roll8Steps : Nat → Byte → Byte → Byte
  | 0, crc, _ => crc
  | n + 1, crc, b =>
    let r := (crc ^^^ b).getLsbD 0
    roll8Steps n (if r then (crc >>> 1) ^^^ Config.crc8Poly else crc >>> 1) (b >>> 1)

/-- `roll8(crc, b)`: the CRC8 byte step (R151). -/
def roll8 (crc b : Byte) : Byte := roll8Steps 8 crc b

/-- `crc8(M)` (R152). -/
def crc8 (m : Bytes) : Byte := m.foldl roll8 Config.crc8Init

/-- `n` of the eight bit steps of `upd32` (R160). -/
def upd32Steps : Nat → BitVec 32 → BitVec 32
  | 0, reg => reg
  | n + 1, reg => upd32Steps n (if reg.getLsbD 0 then (reg >>> 1) ^^^ Config.crc32Poly else reg >>> 1)

/-- `upd32(reg, b)`: the CRC32 byte step (R160). -/
def upd32 (reg : BitVec 32) (b : Byte) : BitVec 32 := upd32Steps 8 (reg ^^^ b.zeroExtend 32)

/-- What `CRC32.REG` holds after the bytes of `M` from the start value, before the final XOR (R161). -/
def crc32Raw (m : Bytes) : BitVec 32 := m.foldl upd32 Config.crc32Init

/-- The CRC32 result of a register value (R161, spec/10_state.md R25). -/
def crc32Result (reg : BitVec 32) : BitVec 32 := reg ^^^ Config.crc32Xorout

/-- `crc32(M)` (R161). -/
def crc32 (m : Bytes) : BitVec 32 := crc32Result (crc32Raw m)

/-- The 32-bit value of the last four bytes of a frame, most significant first (spec/30_encoding.md R101). -/
def trailer32 (f : Bytes) : BitVec 32 :=
  let n := f.length
  u32be (f.getD (n - 4) 0) (f.getD (n - 3) 0) (f.getD (n - 2) 0) (f.getD (n - 1) 0)

/-- A verdict byte (spec/30_encoding.md R107). -/
def verdict (ok : Bool) : OpResult := .value [if ok then 1 else 0]

/-- `CRC8.CLR` (R154). -/
def execCrc8Clr (s : State) : Host.Outcome State Fault Refusal :=
  s.whenIdle fun s => { s with crc8Reg := Config.crc8Init }.answer .void

/-- `CRC8.UPD b` (R155). -/
def execCrc8Upd (b : Byte) (s : State) : Host.Outcome State Fault Refusal :=
  s.whenIdle fun s =>
    let reg := roll8 s.crc8Reg b
    { s with crc8Reg := reg }.answer (.value [reg])

/-- `CRC8.GEN M` (R156). -/
def execCrc8Gen (m : Bytes) (s : State) : Host.Outcome State Fault Refusal :=
  s.whenIdle fun s => s.whenLegal (s.stringLegal m) fun s =>
    let reg := crc8 m
    { s with crc8Reg := reg }.answer (.value [reg])

/-- `CRC8.VAL F` (R157). -/
def execCrc8Val (f : Bytes) (s : State) : Host.Outcome State Fault Refusal :=
  s.whenIdle fun s =>
    let n := f.length
    if n < 1 then s.answer (.err .frameTooShort (info16 n))
    else
      let reg := crc8 (f.take (n - 1))
      { s with crc8Reg := reg }.answer (verdict (reg == f.getD (n - 1) 0))

/-- `CRC32.CLR` (R163). -/
def execCrc32Clr (s : State) : Host.Outcome State Fault Refusal :=
  s.whenIdle fun s => { s with crc32Reg := Config.crc32Init }.answer .void

/-- `CRC32.UPD b` (R164). -/
def execCrc32Upd (b : Byte) (s : State) : Host.Outcome State Fault Refusal :=
  s.whenIdle fun s =>
    let reg := upd32 s.crc32Reg b
    { s with crc32Reg := reg }.answer (.value (be32 (crc32Result reg)))

/-- `CRC32.GEN M` (R165). -/
def execCrc32Gen (m : Bytes) (s : State) : Host.Outcome State Fault Refusal :=
  s.whenIdle fun s => s.whenLegal (s.stringLegal m) fun s =>
    let reg := crc32Raw m
    { s with crc32Reg := reg }.answer (.value (be32 (crc32Result reg)))

/-- `CRC32.VAL F` (R166). -/
def execCrc32Val (f : Bytes) (s : State) : Host.Outcome State Fault Refusal :=
  s.whenIdle fun s =>
    let n := f.length
    if n < 4 then s.answer (.err .frameTooShort (info16 n))
    else
      let reg := crc32Raw (f.take (n - 4))
      { s with crc32Reg := reg }.answer (verdict (crc32Result reg == trailer32 f))

end Sys2Proof.Machine
end

