-- ==== Sys2Proof/Machine/Esc.lean ====
section
/-! DEFINITION. `ESC`, the start/end/escape byte codec, and the byte deframer (spec/42_pjon_escape.md). -/

namespace Sys2Proof.Machine

/-- A delimiter: `START` or `END` (R180). -/
def isDelimiter (b : Byte) : Bool := b == Config.startByte || b == Config.endByte

/-- A special byte: a delimiter or `ESC` (R180). -/
def isSpecial (b : Byte) : Bool := isDelimiter b || b == Config.escByte

/-- The image of one byte under `escape` (R181). -/
def escapeByte (b : Byte) : Bytes :=
  if isSpecial b then [Config.escByte, b ^^^ Config.escByte] else [b]

/-- `escape(F)` (R181). -/
def escape (f : Bytes) : Bytes := f.flatMap escapeByte

/-- `unescape`, from index `i` on: the decoded bytes, or the index at which decoding stopped (R183). -/
def unescapeFrom : Nat → Bytes → Except Nat Bytes
  | _, [] => .ok []
  | i, [b] => if isSpecial b then .error i else .ok [b]
  | i, b :: c :: rest =>
    if isDelimiter b then .error i
    else if b = Config.escByte then
      if isDelimiter c then .error (i + 1)
      else (unescapeFrom (i + 2) rest).map ((c ^^^ Config.escByte) :: ·)
    else (unescapeFrom (i + 1) (c :: rest)).map (b :: ·)

/-- `unescape(E)` (R183). -/
def unescape (e : Bytes) : Except Nat Bytes := unescapeFrom 0 e

/-- `[START] ++ escape(F) ++ [END]`, the PJON wire form (R186, spec/30_encoding.md R99). -/
def sfspWrap (f : Bytes) : Bytes := Config.startByte :: (escape f ++ [Config.endByte])

/-- What one byte does to the deframer: nothing to report, a complete frame, or `MalformedFrame` with its info (R188). -/
inductive DeframeResult where
  | nothing
  | frame (f : Bytes)
  | malformed (info : BitVec 16)
  deriving DecidableEq, Repr

/-- Store a de-escaped byte, or overflow (R188). -/
def deframeStore (d : Byte) (s : State) : State × DeframeResult :=
  if s.rxFull then ({ s.clearRx with escState := .hunt }, .malformed (info16 s.params.maxbuf))
  else ({ s.appendRx false d with escState := .body }, .nothing)

/-- The deframer's table, row by row (R188). -/
def deframeByte (b : Byte) (s : State) : State × DeframeResult :=
  if b = Config.startByte then ({ s.clearRx with escState := .body }, .nothing)
  else
    match s.escState with
    | .hunt => (s, .nothing)
    | .body =>
      if b = Config.endByte then ({ s with escState := .hunt }, .frame s.rxbuf)
      else if b = Config.escByte then ({ s with escState := .escaped }, .nothing)
      else deframeStore b s
    | .escaped =>
      if b = Config.endByte then
        ({ s.clearRx with escState := .hunt }, .malformed (info16 s.rxbuf.length))
      else deframeStore (b ^^^ Config.escByte) s

/-- How a stand-alone deframer step ends (R188). -/
def DeframeResult.toOpResult : DeframeResult → OpResult
  | .nothing => .void
  | .frame f => .value f
  | .malformed info => .err .malformedFrame info

/-- `ESC.ENC F` (R182). -/
def execEscEnc (f : Bytes) (s : State) : Host.Outcome State Fault Refusal :=
  s.whenIdle fun s => s.whenLegal (s.stringLegal f) fun s => s.answer (.value (escape f))

/-- `ESC.DEC E` (R184). -/
def execEscDec (e : Bytes) (s : State) : Host.Outcome State Fault Refusal :=
  s.whenIdle fun s =>
    match unescape e with
    | .ok f => s.answer (.value f)
    | .error i => s.answer (.err .malformedFrame (info16 i))

/-- `SFSP.WRAP F` (R186). -/
def execSfspWrap (f : Bytes) (s : State) : Host.Outcome State Fault Refusal :=
  s.whenIdle fun s => s.whenLegal (s.stringLegal f) fun s => s.answer (.value (sfspWrap f))

/-- `SFSP.RXB b` (R188). -/
def execSfspRxb (b : Byte) (s : State) : Host.Outcome State Fault Refusal :=
  s.whenIdle fun s => (deframeByte b s).1.answer (deframeByte b s).2.toOpResult

end Sys2Proof.Machine
end

