-- ==== Sys2Proof/Machine/Pjf.lean ====
section
/-! DEFINITION. `PJF`, the PJON framer and deframer with its 8-bit and 32-bit CRC dispatch (spec/43_pjon_frame.md). -/

namespace Sys2Proof.Machine

/-- The CRC width on transmit: CRC32 once the length with CRC8 exceeds the threshold (R202). -/
def pjonUsesCrc32 (p : Bytes) : Bool := decide (Config.crc32Threshold < p.length + 6)

/-- The first three bytes of a frame: `TargetID`, `Header`, `TotalLength` (R201, R202). -/
def pjonHead (target : Byte) (p : Bytes) : Bytes :=
  if pjonUsesCrc32 p then [target, Config.hdrCrc32, BitVec.ofNat 8 (p.length + 9)]
  else [target, Config.hdrCrc8, BitVec.ofNat 8 (p.length + 6)]

/-- The frame in front of its trailing CRC: the head, its `HeaderCRC8`, `SenderID` and the payload (R203, R204). -/
def pjonBody (target sender : Byte) (p : Bytes) : Bytes :=
  pjonHead target p ++ crc8 (pjonHead target p) :: sender :: p

/-- The de-escaped frame that carries payload `p` from `sender` to `target` (R200, R203). -/
def pjonFrame (target sender : Byte) (p : Bytes) : Bytes :=
  let body := pjonBody target sender p
  body ++ (if pjonUsesCrc32 p then be32 (crc32 body) else [crc8 body])

/-- `PJON.BUILD P` on the registers, for a legal payload: `TXBUF`, and the check registers at the values of their last
use (R203). -/
def pjonBuildFrame (p : Bytes) (s : State) : State :=
  let head := pjonHead s.cfg.targetId p
  let body := pjonBody s.cfg.targetId s.cfg.deviceId p
  let s' := s.setTxbuf (pjonFrame s.cfg.targetId s.cfg.deviceId p)
  if pjonUsesCrc32 p then { s' with crc8Reg := crc8 head, crc32Reg := crc32Raw body }
  else { s' with crc8Reg := crc8 body }

/-- `PJON.SEND P` on the registers and the line, for a legal payload (R205). -/
def pjonSendFrame (p : Bytes) (s : State) : State :=
  (pjonBuildFrame p s).emit
    ((sfspWrap (pjonFrame s.cfg.targetId s.cfg.deviceId p)).map .byteOut)

/-- The header selects CRC32 (R212). -/
def hdrSelectsCrc32 (hdr : Byte) : Bool := hdr.getLsbD 5

/-- A header with a bit set that the block does not support, or without the sender-ID bit (R209 (a), (b)). -/
def hdrRefused (hdr : Byte) : Bool :=
  decide (hdr &&& Config.hdrUnsupported ≠ 0) || !hdr.getLsbD 1

/-- Check 8 of R207, in front of a trailing CRC of `k` bytes: `PJF.SENDER` is written, then a payload of one non-zero
byte is the remote error (R213; DEDUCED, log entry 9). -/
def pjonTakePayload (f : Bytes) (k : Nat) (s : State) : State × OpResult :=
  let p := (f.take (f.length - k)).drop 5
  if p.length = 1 ∧ p.getD 0 0 ≠ 0 then
    ({ s with pjfSender := f.getD 4 0, pjfSenderValid := false }, .err .remoteError ((p.getD 0 0).zeroExtend 16))
  else ({ s with pjfSender := f.getD 4 0, pjfSenderValid := true }, .value p)

/-- Check 7 of R207, the trailing CRC with the engine the header selects (R212), then check 8. -/
def pjonParsePayload (f : Bytes) (s : State) : State × OpResult :=
  let n := f.length
  if hdrSelectsCrc32 (f.getD 1 0) then
    let reg := crc32Raw (f.take (n - 4))
    let s := { s with crc32Reg := reg }
    if crc32Result reg ≠ trailer32 f then (s, .err .payloadCrcMismatch ((crc32Result reg).truncate 16))
    else pjonTakePayload f 4 s
  else
    let reg := crc8 (f.take (n - 1))
    let s := { s with crc8Reg := reg }
    if reg ≠ f.getD (n - 1) 0 then (s, .err .payloadCrcMismatch (reg.zeroExtend 16))
    else pjonTakePayload f 1 s

/-- `PJON.PARSE F` on the registers: the checks of R207 in their order, the first failure ending the operation. -/
def pjonParse (f : Bytes) (s : State) : State × OpResult :=
  let n := f.length
  let hdr := f.getD 1 0
  let hc := crc8 (f.take 3)
  if n < 6 then (s, .err .frameTooShort (info16 n))
  else
    let s := { s with pjfHdr := hdr }
    if f.getD 0 0 ≠ s.cfg.deviceId ∧ f.getD 0 0 ≠ Config.broadcastId then
      (s, .err .notAddressedToUs ((f.getD 0 0).zeroExtend 16))
    else if hdrRefused hdr then (s, .err .unsupportedHeaderBit (hdr.zeroExtend 16))
    else
      let s := { s with crc8Reg := hc }
      if hc ≠ f.getD 3 0 then (s, .err .headerCrcMismatch (hc.zeroExtend 16))
      else if (f.getD 2 0).toNat ≠ n then (s, .err .lengthMismatch (info16 n))
      else if !hdrSelectsCrc32 hdr && decide (Config.crc32Threshold < n) then
        (s, .err .unsupportedHeaderBit (hdr.zeroExtend 16))
      else if hdrSelectsCrc32 hdr && decide (n < 9) then (s, .err .frameTooShort (info16 n))
      else pjonParsePayload f s

/-- What a receive makes of the verdict on its frame: a frame for another device is no data, any other error is raised,
a payload is the result and `RXBUF` a frame that a receive returned (R214). The raise of the parse is recorded also
where it is caught (spec/60_exceptions.md R386; DEDUCED, log entry 5). -/
def pjfEnd (v : State × OpResult) : State × OpResult :=
  match v with
  | (s, .err .notAddressedToUs info) => (s.raise .notAddressedToUs info, .noValue)
  | (s, .err k info) => (s.raise k info, .err k info)
  | (s, r) => ({ s with rxbufValid := true }, r)

/-- A byte during a receive: the timer restarts, the deframer takes the byte, and a complete frame ends the receive with
its verdict (R214). -/
def pjfByte (b : Byte) (s : State) : State × Option OpResult :=
  match deframeByte b { s with pjfTimer := s.pjfTimeout } with
  | (s, .nothing) => (s, none)
  | (s, .malformed info) =>
    (({ s with pjfRxstate := .off } : State).raise .malformedFrame info, some (.err .malformedFrame info))
  | (s, .frame f) =>
    let (s, r) := pjfEnd (pjonParse f { s with pjfRxstate := .off })
    (s, some r)

/-- Take the bytes waiting in `RXQ`, oldest first, until the receive ends; what is not taken stays, as do characters
(R214; DESIGN CHOICE, log entry 7). `kept` are the characters passed over. -/
def pjfDrain : List RxItem → List RxItem → State → State × Option OpResult
  | kept, [], s => ({ s with rxq := kept }, none)
  | kept, .char c :: rest, s => pjfDrain (kept ++ [.char c]) rest s
  | kept, .byte b :: rest, s =>
    match pjfByte b s with
    | (s, none) => pjfDrain kept rest s
    | (s, some r) => ({ s with rxq := kept ++ rest }, some r)

/-- The start of `PJON.RECV t e`: a partial frame is dropped, stale bytes of `RXQ` are taken (R214); a result where they
end the receive at once (DEDUCED, log entry 12). -/
def pjfStart (t : BitVec 32) (s : State) : State × Option OpResult :=
  pjfDrain [] s.rxq
    { s.clearRx with
      pjfRxstate := .listen
      pjfTimer := t
      pjfTimeout := t
      escState := .hunt }

/-- A tick during a receive; `None` where the timer expires (R214). -/
def pjfTick (s : State) : State × Option OpResult :=
  let timer := s.pjfTimer - 1
  let s := { s with pjfTimer := timer }
  if timer = 0 then ({ s.clearRx with pjfRxstate := .off, escState := .hunt }, some .noValue)
  else (s, none)

/-- `PJON.BUILD P` (R203). -/
def execPjonBuild (p : Bytes) (s : State) : Host.Outcome State Fault Refusal :=
  s.whenIdle fun s => s.whenLegal (pjonPayloadLegal p) fun s =>
    (pjonBuildFrame p s).answer (.value (pjonFrame s.cfg.targetId s.cfg.deviceId p))

/-- `PJON.PARSE F` (R207). -/
def execPjonParse (f : Bytes) (s : State) : Host.Outcome State Fault Refusal :=
  s.whenIdle fun s => (pjonParse f s).1.answer (pjonParse f s).2

/-- `PJON.SEND P` (R205). -/
def execPjonSend (p : Bytes) (s : State) : Host.Outcome State Fault Refusal :=
  s.whenIdle fun s => s.whenLegal (pjonPayloadLegal p) fun s => (pjonSendFrame p s).answer .void

/-- `PJON.RECV t e`: a long operation; the expected length is ignored on this transport (R214). -/
def execPjonRecv (t : BitVec 32) (_e : Option (BitVec 16)) (s : State) : Host.Outcome State Fault Refusal :=
  s.whenIdle fun s => s.whenLegal (timeoutLegal t) fun s =>
    match pjfStart t s with
    | (s, none) => s
    | (s, some r) => s.answer r

end Sys2Proof.Machine
end

