-- ==== Sys2Proof/Syntax.lean ====
section
/-! DEFINITION. The operations of the block, one constructor per row of spec/opcode_table.json, in the table's order,
with the operands of the row's format (spec/30_encoding.md R104, R105). -/

namespace Sys2Proof

/-- One operation with its operands. An expected length is `none` where the command carries `0xFFFF`; the address bit
`a` of a 9-bit symbol is a Bool (R91, R104). -/
inductive Instr where
  | reset
  | chk16Clr
  | chk16Upd (b : Byte)
  | chk16Gen (d : Bytes)
  | chk16Val (f : Bytes)
  | crc8Clr
  | crc8Upd (b : Byte)
  | crc8Gen (m : Bytes)
  | crc8Val (f : Bytes)
  | crc32Clr
  | crc32Upd (b : Byte)
  | crc32Gen (m : Bytes)
  | crc32Val (f : Bytes)
  | escEnc (f : Bytes)
  | escDec (e : Bytes)
  | sfspWrap (f : Bytes)
  | sfspRxb (b : Byte)
  | pjonBuild (p : Bytes)
  | pjonParse (f : Bytes)
  | pjonSend (p : Bytes)
  | pjonRecv (t : BitVec 32) (e : Option (BitVec 16))
  | s9Psel (a : Bool) (d : Byte)
  | s9Build (a : Bool) (d : Byte)
  | s9Parse (c : BitVec 11)
  | s9Tx (a : Bool) (d : Byte)
  | t9Build (d : Bytes)
  | t9Val (e : Option (BitVec 16)) (f : Bytes)
  | t9Send (d : Bytes)
  | t9Recv (t : BitVec 32) (e : Option (BitVec 16))
  | pktEnc (port ptype : Byte) (address param : BitVec 16)
  | pktRsp (r : Bytes)
  | pktU16 (p : Bytes)
  | xchSend (port ptype : Byte) (address param : BitVec 16) (e : Option (BitVec 16))
  | xchQuery (port : Byte) (reg param : BitVec 16)
  | xchControl (port : Byte) (reg value : BitVec 16)
  deriving DecidableEq, Repr

end Sys2Proof
end

