-- ==== Sys2Proof/WellFormed.lean ====
section
/-! DEFINITION. Which operations have a command: an operand string whose length fits the two length bytes, and an
expected length other than `0xFFFF`, which the command reads as none (spec/30_encoding.md R104). The limits that an
operation's own rule puts on its operands (`port > 9`, timeout 0, ...) are no part of this: such a command is decoded
and refused with `IllegalOperand` by its meaning (spec/60_exceptions.md R384). -/

namespace Sys2Proof

/-- A byte string that formats `S` and `T` can carry. -/
def stringFits (bs : Bytes) : Bool := decide (bs.length < 65536)

/-- An expected length that formats `T`, `R` and `X` can carry. -/
def explenFits (e : Option (BitVec 16)) : Bool := e != some 0xFFFF

/-- The operation can be written as a command. -/
def Instr.wf : Instr → Bool
  | .reset => true
  | .chk16Clr => true
  | .chk16Upd _ => true
  | .chk16Gen d => stringFits d
  | .chk16Val f => stringFits f
  | .crc8Clr => true
  | .crc8Upd _ => true
  | .crc8Gen m => stringFits m
  | .crc8Val f => stringFits f
  | .crc32Clr => true
  | .crc32Upd _ => true
  | .crc32Gen m => stringFits m
  | .crc32Val f => stringFits f
  | .escEnc f => stringFits f
  | .escDec e => stringFits e
  | .sfspWrap f => stringFits f
  | .sfspRxb _ => true
  | .pjonBuild p => stringFits p
  | .pjonParse f => stringFits f
  | .pjonSend p => stringFits p
  | .pjonRecv _ e => explenFits e
  | .s9Psel _ _ => true
  | .s9Build _ _ => true
  | .s9Parse _ => true
  | .s9Tx _ _ => true
  | .t9Build d => stringFits d
  | .t9Val e f => explenFits e && stringFits f
  | .t9Send d => stringFits d
  | .t9Recv _ e => explenFits e
  | .pktEnc _ _ _ _ => true
  | .pktRsp r => stringFits r
  | .pktU16 p => stringFits p
  | .xchSend _ _ _ _ e => explenFits e
  | .xchQuery _ _ _ => true
  | .xchControl _ _ _ => true

end Sys2Proof
end

