-- ==== Sys2Proof/Decode.lean ====
section
/-! DEFINITION. The command interface of spec/30_encoding.md Part B: the decoder of a command's bytes, total on any
bytes and rejecting by name, and after it the encoder, written from the same table. -/

namespace Sys2Proof

/-- Why a byte string is no command (spec/60_exceptions.md R384). -/
inductive DecodeError where
  /-- There is no `OPSEL` byte at all (DESIGN CHOICE, log entry 6). -/
  | noOpsel
  /-- The `OPSEL` value is reserved (R106). -/
  | reservedOpsel (op : Byte)
  /-- The length or a must-be-zero bit does not fit the format of this `OPSEL` (R104). -/
  | badOperands (op : Byte)
  deriving DecidableEq, Repr

/-- A row of R105: the operand format (R104) with the operation it makes of the operands. -/
inductive OpRow where
  | fmtN (i : Instr)
  | fmtB (mk : Byte → Instr)
  | fmtS (mk : Bytes → Instr)
  | fmtT (mk : Option (BitVec 16) → Bytes → Instr)
  | fmtY (mk : Bool → Byte → Instr)
  | fmtC (mk : BitVec 11 → Instr)
  | fmtR (mk : BitVec 32 → Option (BitVec 16) → Instr)
  | fmtP (mk : Byte → Byte → BitVec 16 → BitVec 16 → Instr)
  | fmtX (mk : Byte → Byte → BitVec 16 → BitVec 16 → Option (BitVec 16) → Instr)
  | fmtQ (mk : Byte → BitVec 16 → BitVec 16 → Instr)

/-- The operation-select map of R105; every other value is reserved (R106). -/
def opRow (op : Byte) : Option OpRow :=
  match op.toNat with
  | 0x00 => some (.fmtN .reset)
  | 0x10 => some (.fmtN .chk16Clr)
  | 0x11 => some (.fmtB .chk16Upd)
  | 0x12 => some (.fmtS .chk16Gen)
  | 0x13 => some (.fmtS .chk16Val)
  | 0x20 => some (.fmtN .crc8Clr)
  | 0x21 => some (.fmtB .crc8Upd)
  | 0x22 => some (.fmtS .crc8Gen)
  | 0x23 => some (.fmtS .crc8Val)
  | 0x30 => some (.fmtN .crc32Clr)
  | 0x31 => some (.fmtB .crc32Upd)
  | 0x32 => some (.fmtS .crc32Gen)
  | 0x33 => some (.fmtS .crc32Val)
  | 0x40 => some (.fmtS .escEnc)
  | 0x41 => some (.fmtS .escDec)
  | 0x42 => some (.fmtS .sfspWrap)
  | 0x43 => some (.fmtB .sfspRxb)
  | 0x50 => some (.fmtS .pjonBuild)
  | 0x51 => some (.fmtS .pjonParse)
  | 0x52 => some (.fmtS .pjonSend)
  | 0x53 => some (.fmtR .pjonRecv)
  | 0x60 => some (.fmtY .s9Psel)
  | 0x61 => some (.fmtY .s9Build)
  | 0x62 => some (.fmtC .s9Parse)
  | 0x63 => some (.fmtY .s9Tx)
  | 0x70 => some (.fmtS .t9Build)
  | 0x71 => some (.fmtT .t9Val)
  | 0x72 => some (.fmtS .t9Send)
  | 0x73 => some (.fmtR .t9Recv)
  | 0x80 => some (.fmtP .pktEnc)
  | 0x81 => some (.fmtS .pktRsp)
  | 0x82 => some (.fmtS .pktU16)
  | 0x90 => some (.fmtX .xchSend)
  | 0x91 => some (.fmtQ .xchQuery)
  | 0x92 => some (.fmtQ .xchControl)
  | _ => none

/-- An expected length from its two bytes, `0xFFFF` meaning none (R104). -/
def parseExplen (hi lo : Byte) : Option (BitVec 16) :=
  if u16be hi lo = 0xFFFF then none else some (u16be hi lo)

/-- `[n_hi][n_lo]` then exactly `n` bytes (R104, format S). -/
def parseString : Bytes → Option Bytes
  | hi :: lo :: bs => if bs.length = (u16be hi lo).toNat then some bs else none
  | _ => none

/-- The operand bytes of a row read in its format; none where the length or a must-be-zero bit does not fit (R104). -/
def OpRow.parse : OpRow → Bytes → Option Instr
  | .fmtN i, [] => some i
  | .fmtB mk, [b] => some (mk b)
  | .fmtS mk, bs => (parseString bs).map mk
  | .fmtT mk, ehi :: elo :: bs => (parseString bs).map (mk (parseExplen ehi elo))
  | .fmtY mk, [a, d] => if a.extractLsb' 1 7 = 0 then some (mk (a.getLsbD 0) d) else none
  | .fmtC mk, [hi, lo] =>
    if (u16be hi lo).extractLsb' 11 5 = 0 then some (mk ((u16be hi lo).extractLsb' 0 11)) else none
  | .fmtR mk, [t3, t2, t1, t0, ehi, elo] => some (mk (u32be t3 t2 t1 t0) (parseExplen ehi elo))
  | .fmtP mk, [port, ty, ahi, alo, phi, plo] => some (mk port ty (u16be ahi alo) (u16be phi plo))
  | .fmtX mk, [port, ty, ahi, alo, phi, plo, ehi, elo] =>
    some (mk port ty (u16be ahi alo) (u16be phi plo) (parseExplen ehi elo))
  | .fmtQ mk, [port, rhi, rlo, vhi, vlo] => some (mk port (u16be rhi rlo) (u16be vhi vlo))
  | _, _ => none

/-- The decoder of a command (R104 to R106). -/
def decode : Bytes → Except DecodeError Instr
  | [] => .error .noOpsel
  | op :: operands =>
    match opRow op with
    | none => .error (.reservedOpsel op)
    | some row =>
      match row.parse operands with
      | some i => .ok i
      | none => .error (.badOperands op)

/-! The encoder. -/

/-- An expected length as two bytes (R104). -/
def encodeExplen (e : Option (BitVec 16)) : Bytes := be16 (e.getD 0xFFFF)

/-- A byte string behind its length (R104, format S). -/
def encodeString (bs : Bytes) : Bytes := be16 (BitVec.ofNat 16 bs.length) ++ bs

/-- A 9-bit symbol as `[0000000a][d]` (R104, format Y; also the result of `S9.PARSE`, spec/44_serial9.md R250). -/
def encodeSymbol (a : Bool) (d : Byte) : Bytes := [BitVec.zeroExtend 8 (BitVec.ofBool a), d]

/-- The bytes of a packet's fields (R104, format P). -/
def encodePacket (port ptype : Byte) (address param : BitVec 16) : Bytes :=
  port :: ptype :: (be16 address ++ be16 param)

/-- The bytes of an operation's command (R104, R105). -/
def encode : Instr → Bytes
  | .reset => [0x00]
  | .chk16Clr => [0x10]
  | .chk16Upd b => [0x11, b]
  | .chk16Gen d => 0x12 :: encodeString d
  | .chk16Val f => 0x13 :: encodeString f
  | .crc8Clr => [0x20]
  | .crc8Upd b => [0x21, b]
  | .crc8Gen m => 0x22 :: encodeString m
  | .crc8Val f => 0x23 :: encodeString f
  | .crc32Clr => [0x30]
  | .crc32Upd b => [0x31, b]
  | .crc32Gen m => 0x32 :: encodeString m
  | .crc32Val f => 0x33 :: encodeString f
  | .escEnc f => 0x40 :: encodeString f
  | .escDec e => 0x41 :: encodeString e
  | .sfspWrap f => 0x42 :: encodeString f
  | .sfspRxb b => [0x43, b]
  | .pjonBuild p => 0x50 :: encodeString p
  | .pjonParse f => 0x51 :: encodeString f
  | .pjonSend p => 0x52 :: encodeString p
  | .pjonRecv t e => 0x53 :: (be32 t ++ encodeExplen e)
  | .s9Psel a d => 0x60 :: encodeSymbol a d
  | .s9Build a d => 0x61 :: encodeSymbol a d
  | .s9Parse c => 0x62 :: be16 (c.zeroExtend 16)
  | .s9Tx a d => 0x63 :: encodeSymbol a d
  | .t9Build d => 0x70 :: encodeString d
  | .t9Val e f => 0x71 :: (encodeExplen e ++ encodeString f)
  | .t9Send d => 0x72 :: encodeString d
  | .t9Recv t e => 0x73 :: (be32 t ++ encodeExplen e)
  | .pktEnc port ty ad pa => 0x80 :: encodePacket port ty ad pa
  | .pktRsp r => 0x81 :: encodeString r
  | .pktU16 p => 0x82 :: encodeString p
  | .xchSend port ty ad pa e => 0x90 :: (encodePacket port ty ad pa ++ encodeExplen e)
  | .xchQuery port reg v => 0x91 :: port :: (be16 reg ++ be16 v)
  | .xchControl port reg v => 0x92 :: port :: (be16 reg ++ be16 v)

/-! A table word as a command: the operation-select byte is the first byte of the command, the bytes follow in the
order of the table's bits, and the operand bytes the table gives no bits are zeros, as many as the format asks for
(DESIGN CHOICE, log entry 20). -/

/-- How many operand bytes a row's format asks for, given the operand bytes there are (R104): for `S` and `T` the
length bytes say how many follow. -/
def OpRow.operandLength : OpRow → Bytes → Nat
  | .fmtN _, _ => 0
  | .fmtB _, _ => 1
  | .fmtS _, bs => 2 + (u16be (bs.getD 0 0) (bs.getD 1 0)).toNat
  | .fmtT _, bs => 4 + (u16be (bs.getD 2 0) (bs.getD 3 0)).toNat
  | .fmtY _, _ => 2
  | .fmtC _, _ => 2
  | .fmtR _, _ => 6
  | .fmtP _, _ => 6
  | .fmtX _, _ => 8
  | .fmtQ _, _ => 5

/-- The first `n` bytes of a word whose bit 0 is the least significant bit of its first byte. -/
def wordBytes : Nat → Nat → Bytes
  | 0, _ => []
  | n + 1, w => BitVec.ofNat 8 w :: wordBytes n (w / 256)

/-- The command a table word stands for: its bytes, then zero bytes up to the length its format asks for. -/
def tableBytes (nbits w : Nat) : Bytes :=
  match wordBytes ((nbits + 7) / 8) w with
  | [] => []
  | op :: given =>
    match opRow op with
    | none => op :: given
    | some row => op :: (given ++ List.replicate (row.operandLength given - given.length) 0)

/-- The operation the decoder reads from a table word. -/
def decodeTableWord (nbits w : Nat) : Option Instr :=
  match decode (tableBytes nbits w) with
  | .ok i => some i
  | .error _ => none

end Sys2Proof
end

