-- ==== Sys2Proof/Machine/Pkt.lean ====
section
/-! DEFINITION. `PKT`, the packet-structure codec: pure functions of the operands (spec/46_packet_codec.md). -/

namespace Sys2Proof.Machine

/-- A response without its status byte, or the error it stands for (R303). -/
def pktResponse (r : Bytes) : OpResult :=
  if r.length < 2 then .err .frameTooShort (info16 r.length)
  else if (r.getD 0 0).getLsbD 7 then .err .invalidCommandAck (((r.getD 0 0).extractLsb' 0 7).zeroExtend 16)
  else .value (r.drop 1)

/-- A query payload as its 16-bit value, on `rsp` the two bytes themselves (R304). -/
def pktValue (p : Bytes) : OpResult :=
  if p.length = 2 then .value (be16 (u16be (p.getD 0 0) (p.getD 1 0)))
  else .err .lengthMismatch (info16 p.length)

/-- The inverse of the packet encoding on a 6-byte body; the block has no operation for it (R302). -/
def pktDecode (b : Bytes) : Byte × Byte × BitVec 16 × BitVec 16 :=
  (b.getD 0 0, b.getD 1 0, u16be (b.getD 2 0) (b.getD 3 0), u16be (b.getD 4 0) (b.getD 5 0))

/-- `PKT.ENC port type address param` (R301). -/
def execPktEnc (port ptype : Byte) (address param : BitVec 16) (s : State) : Host.Outcome State Fault Refusal :=
  s.whenIdle fun s => s.whenLegal (packetLegal port ptype) fun s =>
    s.answer (.value (encodePacket port ptype address param))

/-- `PKT.RSP R` (R303). -/
def execPktRsp (r : Bytes) (s : State) : Host.Outcome State Fault Refusal :=
  s.whenIdle fun s => s.answer (pktResponse r)

/-- `PKT.U16 P` (R304). -/
def execPktU16 (p : Bytes) (s : State) : Host.Outcome State Fault Refusal :=
  s.whenIdle fun s => s.answer (pktValue p)

end Sys2Proof.Machine
end

