-- ==== Sys2Proof/Machine/Chk16.lean ====
section
/-! DEFINITION. `CHK16`, the 16-bit additive check generator and validator (spec/40_chk16.md). -/

namespace Sys2Proof.Machine

/-- `upd(acc, b)`: the 17-bit sum, reduced once by the modulus (R132). -/
def chk16Upd (acc : BitVec 16) (b : Byte) : BitVec 16 :=
  let t : BitVec 17 := acc.zeroExtend 17 + b.zeroExtend 17
  if Config.chk16Mod ≤ t.toNat then (t - BitVec.ofNat 17 Config.chk16Mod).truncate 16 else t.truncate 16

/-- `chk16(D)` by the incremental form, from 0 (R131, R132). -/
def chk16 (d : Bytes) : BitVec 16 := d.foldl chk16Upd 0

/-- `CHK16.VAL F` on the registers (R140): the data in front of the two check bytes, or the error. -/
def chk16Validate (f : Bytes) (s : State) : State × OpResult :=
  let n := f.length
  if n < Config.ser9MinFrame then (s, .err .frameTooShort (info16 n))
  else
    let d := f.take (n - 2)
    let acc := chk16 d
    let s := { s with chk16Acc := acc }
    if acc = u16be (f.getD (n - 2) 0) (f.getD (n - 1) 0) then (s, .value d)
    else (s, .err .checksumMismatch acc)

/-- `CHK16.CLR` (R137). -/
def execChk16Clr (s : State) : Host.Outcome State Fault Refusal :=
  s.whenIdle fun s => { s with chk16Acc := 0 }.answer .void

/-- `CHK16.UPD b` (R138). -/
def execChk16Upd (b : Byte) (s : State) : Host.Outcome State Fault Refusal :=
  s.whenIdle fun s =>
    let acc := chk16Upd s.chk16Acc b
    { s with chk16Acc := acc }.answer (.value (be16 acc))

/-- `CHK16.GEN D` (R139). -/
def execChk16Gen (d : Bytes) (s : State) : Host.Outcome State Fault Refusal :=
  s.whenIdle fun s => s.whenLegal (s.stringLegal d) fun s =>
    let acc := chk16 d
    { s with chk16Acc := acc }.answer (.value (be16 acc))

/-- `CHK16.VAL F` (R140). -/
def execChk16Val (f : Bytes) (s : State) : Host.Outcome State Fault Refusal :=
  s.whenIdle fun s => (chk16Validate f s).1.answer (chk16Validate f s).2

end Sys2Proof.Machine
end

