-- ==== Sys2Proof/Machine/S9.lean ====
section
/-! DEFINITION. `S9`, the 9-bit serial emulator: parity selection, the line character and its parser
(spec/44_serial9.md). -/

namespace Sys2Proof.Machine

/-- The parity bit the line hardware sends for a byte under a mode (R241). -/
def parityBit (m : ParityMode) (d : Byte) : Bool :=
  match m with
  | .even => par8 d
  | .odd => !par8 d
  | .mark => true
  | .space => false

/-- The mode for a 9-bit symbol: direct when the line hardware has mark and space modes (R242), else emulated (R243,
R244). -/
def selectMode (spacemark a : Bool) (d : Byte) : ParityMode :=
  if spacemark then (if a then .mark else .space)
  else if par8 d ^^ a then .odd else .even

/-- The character the line hardware forms from a byte under a mode: stop bit 1, the parity position, `d[7]` to `d[0]`,
start bit 0, from bit 10 down to bit 0 (R246, R247). -/
def lineChar (m : ParityMode) (d : Byte) : BitVec 11 := 1#1 ++ BitVec.ofBool (parityBit m d) ++ d ++ 0#1

/-- A character whose start bit is 0 and whose stop bit is 1 (R251). -/
def charWellFormed (c : BitVec 11) : Bool := !c.getLsbD 0 && c.getLsbD 10

/-- The data byte of a character (R250). -/
def charData (c : BitVec 11) : Byte := c.extractLsb' 1 8

/-- The 9th bit of a character, read from the parity position (R250). -/
def charTag (c : BitVec 11) : Bool := c.getLsbD 9

/-- Transmit one symbol: mode write, character, flush (R248). -/
def s9Transmit (a : Bool) (d : Byte) (s : State) : State :=
  let m := selectMode s.cfg.spacemark a d
  { s.emit [.pmode m, .char (lineChar m d), .flush] with s9Pmode := .known m }

/-- `S9.PSEL (a, d)` (R244). -/
def execS9Psel (a : Bool) (d : Byte) (s : State) : Host.Outcome State Fault Refusal :=
  s.whenIdle fun s => s.answer (.value [(selectMode s.cfg.spacemark a d).code])

/-- `S9.BUILD (a, d)` (R247). -/
def execS9Build (a : Bool) (d : Byte) (s : State) : Host.Outcome State Fault Refusal :=
  s.whenIdle fun s =>
    s.answer (.value (be16 ((lineChar (selectMode s.cfg.spacemark a d) d).zeroExtend 16)))

/-- `S9.PARSE c` (R250, R251). -/
def execS9Parse (c : BitVec 11) (s : State) : Host.Outcome State Fault Refusal :=
  s.whenIdle fun s =>
    if charWellFormed c then s.answer (.value (encodeSymbol (charTag c) (charData c)))
    else s.setFerr.answer (.err .malformedFrame (c.zeroExtend 16))

/-- `S9.TX (a, d)` (R248). -/
def execS9Tx (a : Bool) (d : Byte) (s : State) : Host.Outcome State Fault Refusal :=
  s.whenIdle fun s => (s9Transmit a d s).answer .void

end Sys2Proof.Machine
end

