-- ==== Sys2Proof/Machine/T9.lean ====
section
/-! DEFINITION. `T9`, the 9-bit transport framer and receiver (spec/45_transport9.md). -/

namespace Sys2Proof.Machine

/-- The bytes of a 9-bit frame: the data and the two check bytes (R271). -/
def t9Frame (d : Bytes) : Bytes := d ++ be16 (chk16 d)

/-- `T9.BUILD D` on the registers, for legal data (R271). -/
def t9BuildFrame (d : Bytes) (s : State) : State :=
  { s.setTxbuf (t9Frame d) with chk16Acc := chk16 d }

/-- The symbols of a frame: the address bit on the first byte only (R270). -/
def t9Symbols : Bytes → List (Bool × Byte)
  | [] => []
  | b :: bs => (true, b) :: bs.map fun c => (false, c)

/-- One symbol of a frame on the line: `S9.TX`, and in the emulated realisation the inter-byte delay (R272, R273). -/
def t9SendSymbol (s : State) (sym : Bool × Byte) : State :=
  let s := s9Transmit sym.1 sym.2 s
  if s.cfg.spacemark then s else s.emit [.delay s.cfg.interbyteDelay]

/-- `T9.SEND D` on the registers and the line, for legal data (R272). -/
def t9SendFrame (d : Bytes) (s : State) : State :=
  (t9Symbols (t9Frame d)).foldl t9SendSymbol (t9BuildFrame d s)

/-- A well-formed or malformed character during a receive (R276, R278, R280, R281). -/
def t9Char (c : BitVec 11) (s : State) : State :=
  if charWellFormed c then
    { (if s.rxFull then s.withOvf true else s.appendRx (charTag c) (charData c)) with
      t9State := .collect
      t9Timer := s.cfg.eopIdle }
  else s.setFerr

/-- The characters waiting in `RXQ`, oldest first. -/
def rxqChars (q : List RxItem) : List (BitVec 11) :=
  q.filterMap fun
    | .char c => some c
    | .byte _ => none

/-- What `RXQ` keeps when its characters are taken (DESIGN CHOICE, log entry 7). -/
def rxqWithoutChars (q : List RxItem) : List RxItem :=
  q.filter fun
    | .char _ => false
    | .byte _ => true

/-- The start of `T9.RECV t e`, with the stale characters of `RXQ` handled as if they arrived now (R276, R277). -/
def t9Start (t : BitVec 32) (e : Option (BitVec 16)) (s : State) : State :=
  (rxqChars s.rxq).foldl (fun s c => t9Char c s)
    { (s.clearRx.withOvf false) with
      t9State := .waitFirst
      t9Timer := t
      t9Explen := e
      rxq := rxqWithoutChars s.rxq }

/-- The end of a capture: `RXBUF` and `RXTAG` are trimmed, then validated (R282, R285); an error is raised (R386). -/
def t9Finish (s : State) : State × OpResult :=
  let s := s.truncateRx (trimLength s.t9Explen s.rxbuf.length)
  match chk16Validate s.rxbuf s with
  | (s, .value d) => ({ s with rxbufValid := true }, .value d)
  | (s, .err k info) => (s.raise k info, .err k info)
  | (s, r) => (s, r)

/-- A tick during a receive; a result where the receive ends (R276, R279, R280). -/
def t9Tick (s : State) : State × Option OpResult :=
  let timer := s.t9Timer - 1
  let s := { s with t9Timer := timer }
  if timer = 0 then
    match s.t9State with
    | .off => (s, none)
    | .waitFirst => ({ s with t9State := .off }, some .noValue)
    | .collect =>
      let (s, r) := t9Finish { s with t9State := .off }
      (s, some r)
  else (s, none)

/-- `T9.BUILD D` (R271). -/
def execT9Build (d : Bytes) (s : State) : Host.Outcome State Fault Refusal :=
  s.whenIdle fun s => s.whenLegal (s.t9DataLegal d) fun s =>
    (t9BuildFrame d s).answer (.value (t9Frame d))

/-- `T9.VAL e F` (R284). -/
def execT9Val (e : Option (BitVec 16)) (f : Bytes) (s : State) : Host.Outcome State Fault Refusal :=
  s.whenIdle fun s =>
    let v := chk16Validate (f.take (trimLength e f.length)) s
    v.1.answer v.2

/-- `T9.SEND D` (R272). -/
def execT9Send (d : Bytes) (s : State) : Host.Outcome State Fault Refusal :=
  s.whenIdle fun s => s.whenLegal (s.t9DataLegal d) fun s => (t9SendFrame d s).answer .void

/-- `T9.RECV t e`: a long operation; it answers in a later event (R276). -/
def execT9Recv (t : BitVec 32) (e : Option (BitVec 16)) (s : State) : Host.Outcome State Fault Refusal :=
  s.whenIdle fun s => s.whenLegal (timeoutLegal t) fun s => t9Start t e s

end Sys2Proof.Machine
end

