-- ==== Sys2Proof/Machine/Xch.lean ====
section
/-! DEFINITION. `XCH`, the timeout-and-retry exchange state machine (spec/47_exchange.md). -/

namespace Sys2Proof.Machine

/-- The start of an exchange: nothing of an earlier one survives (R322). -/
def xchBegin (op : XchOp) (body : BitVec 48) (e : Option (BitVec 16)) (s : State) : State :=
  { s with
    xchOp := op
    xchReq := body
    xchExplen := e
    xchRetries := 0
    xchAttempts := 0
    xchLasterr := none
    xchResp := []
    xchState := .sending }

/-- The transport send of an attempt: the six bytes of `XCH.REQ` (R323). -/
def xchTransmit (s : State) : State :=
  match s.cfg.transport with
  | .ser9 => t9SendFrame (bytes48 s.xchReq) s
  | .pjon => pjonSendFrame (bytes48 s.xchReq) s

/-- The transport receive of an attempt: `CFG.RX_TIMEOUT`, and one more byte than expected for the status byte (R324;
DEDUCED, log entry 19). -/
def xchListen (s : State) : State × Option OpResult :=
  match s.cfg.transport with
  | .ser9 => (t9Start s.cfg.rxTimeout (s.xchExplen.map (· + 1)) s, none)
  | .pjon => pjfStart s.cfg.rxTimeout s

/-- `Sending`: count the attempt, send, and start the receive in `AwaitingResponse` (R323); a result where stale input
ends the receive at once (DEDUCED, log entry 12). -/
def xchAttempt (s : State) : State × Option OpResult :=
  xchListen { xchTransmit { s with xchAttempts := s.xchAttempts + 1 } with xchState := .awaitingResponse }

/-- `Failed`, with the error that is raised (R325 (c), R327, R329). -/
def xchFail (k : ErrKind) (info : BitVec 16) (s : State) : State :=
  ({ s with xchLasterr := some (k, info), xchState := .failed } : State).answer (.err k info)

/-- What the command that started the exchange answers with its payload (R321, R335, R336; DEDUCED, log entry 13). -/
def xchPayloadResult (op : XchOp) (p : Bytes) : OpResult :=
  match op with
  | .send => .value p
  | .query => pktValue p
  | .control => .void

/-- `Validating`: the response is checked as `PKT.RSP` does; `Done` with the payload, or `Failed` (R329 to R332). -/
def xchValidate (r : Bytes) (s : State) : State :=
  match pktResponse r with
  | .err k info => xchFail k info { s with xchState := .validating }
  | .value p =>
    ({ s with xchResp := p, xchState := .done } : State).answer (xchPayloadResult s.xchOp p)
  | .noValue | .void => s

/-- The `Retry` transition back to `Sending` after error `(k, info)` (R327). -/
def xchRetry (k : ErrKind) (info : BitVec 16) (s : State) : State :=
  { s with xchLasterr := some (k, info), xchRetries := s.xchRetries + 1, xchState := .sending }

/-- The retries that are left (R327: `XCH.RETRIES < CFG.RETRY_PACKET`). -/
def State.retriesLeft (s : State) : Nat := s.cfg.retryPacket.toNat - s.xchRetries.toNat

/-- The outcome of an attempt's receive (R325 to R327), with `n` retries left: data is validated; `None` or a retryable
error is retried, which may end at once again, or fails; any other error fails. -/
def xchSettle : Nat → OpResult → State → State
  | _, .value r, s => xchValidate r s
  | 0, .err k info, s => xchFail k info s
  | 0, .noValue, s => xchFail .noResponse 0 s
  | n + 1, .err k info, s =>
    if k.retryable then
      match xchAttempt (xchRetry k info s) with
      | (s, none) => s
      | (s, some r) => xchSettle n r s
    else xchFail k info s
  | n + 1, .noValue, s =>
    match xchAttempt (xchRetry .noResponse 0 s) with
    | (s, none) => s
    | (s, some r) => xchSettle n r s
  | _, .void, s => s

/-- A receive has ended: inside an exchange its outcome goes to the exchange (R325), otherwise it is the answer of the
stand-alone receive. -/
def receiveEnded (v : State × Option OpResult) : State :=
  match v with
  | (s, none) => s
  | (s, some r) =>
    if s.xchState = .awaitingResponse then xchSettle s.retriesLeft r s else s.answer r

/-- A whole exchange from its command on, for legal operands (R321). -/
def xchStart (op : XchOp) (body : BitVec 48) (e : Option (BitVec 16)) (s : State) : State :=
  receiveEnded (xchAttempt (xchBegin op body e s))

/-- `XCH.SEND port type address param e` (R321). -/
def execXchSend (port ptype : Byte) (address param : BitVec 16) (e : Option (BitVec 16)) (s : State) :
    Host.Outcome State Fault Refusal :=
  s.whenIdle fun s => s.whenLegal (packetLegal port ptype) fun s =>
    xchStart .send (body48 port ptype address param) e s

/-- `XCH.QUERY port reg param` (R335). -/
def execXchQuery (port : Byte) (reg param : BitVec 16) (s : State) : Host.Outcome State Fault Refusal :=
  s.whenIdle fun s => s.whenLegal (packetLegal port Config.typeRead) fun s =>
    xchStart .query (body48 port Config.typeRead reg param) (some 2) s

/-- `XCH.CONTROL port reg value` (R336). -/
def execXchControl (port : Byte) (reg value : BitVec 16) (s : State) : Host.Outcome State Fault Refusal :=
  s.whenIdle fun s => s.whenLegal (packetLegal port Config.typeWrite) fun s =>
    xchStart .control (body48 port Config.typeWrite reg value) none s

end Sys2Proof.Machine
end

