-- ==== Sys2Proof/Machine/Events.lean ====
section
/-! DEFINITION. What the input events other than commands do (spec/60_exceptions.md R395). -/

namespace Sys2Proof.Machine

/-- `Tick`: the running receive's timer, if any (R395, R402; DEDUCED, log entry 16). -/
def onTick (s : State) : State :=
  if s.t9State ≠ .off then receiveEnded (t9Tick s)
  else if s.pjfRxstate = .listen then receiveEnded (pjfTick s)
  else s

/-- `RxChar(c)`: handled by a running 9-bit receive, else queued (spec/45_transport9.md R276). -/
def onRxChar (c : BitVec 11) (s : State) : State :=
  if s.t9State ≠ .off then t9Char c s else { s with rxq := s.rxq ++ [.char c] }

/-- `RxByte(b)`: handled by a running PJON receive, else queued (spec/43_pjon_frame.md R214). -/
def onRxByte (b : Byte) (s : State) : State :=
  if s.pjfRxstate = .listen then receiveEnded (pjfByte b s) else { s with rxq := s.rxq ++ [.byte b] }

end Sys2Proof.Machine
end

