-- ==== Sys2Proof/Machine/System.lean ====
section
/-! DEFINITION. The one operation that acts on the block as a whole: `RESET` (spec/70_reset_and_hazards.md R420), and
power-on reset, which does the same with a parameter set. -/

namespace Sys2Proof.Machine

/-- `RESET`: accepted also while the block is busy; the interrupted operation never answers (R420). -/
def execReset (s : State) : Host.Outcome State Fault Refusal :=
  .next ((s.resetWith s.params).answer .void)

/-- Power-on reset with a parameter set: the action of R420 without a command to answer; an illegal set is not
instantiated (spec/10_state.md R22; DEDUCED, log entry 3). -/
def powerOn (p : Params) (s : State) : Host.Outcome State Fault Refusal :=
  if p.legal then .next (s.resetWith p) else .refused .illegalParameters

end Sys2Proof.Machine
end

