-- ==== Sys2Proof/Machine/Dispatch.lean ====
section
/-! DEFINITION. One arm per operation, each one call of its meaning. -/

namespace Sys2Proof.Machine

def exec (i : Instr) (s : State) : Host.Outcome State Fault Refusal :=
  match i with
  | .reset => Sys2Proof.Machine.execReset s
  | .chk16Clr => Sys2Proof.Machine.execChk16Clr s
  | .chk16Upd b => Sys2Proof.Machine.execChk16Upd b s
  | .chk16Gen d => Sys2Proof.Machine.execChk16Gen d s
  | .chk16Val f => Sys2Proof.Machine.execChk16Val f s
  | .crc8Clr => Sys2Proof.Machine.execCrc8Clr s
  | .crc8Upd b => Sys2Proof.Machine.execCrc8Upd b s
  | .crc8Gen m => Sys2Proof.Machine.execCrc8Gen m s
  | .crc8Val f => Sys2Proof.Machine.execCrc8Val f s
  | .crc32Clr => Sys2Proof.Machine.execCrc32Clr s
  | .crc32Upd b => Sys2Proof.Machine.execCrc32Upd b s
  | .crc32Gen m => Sys2Proof.Machine.execCrc32Gen m s
  | .crc32Val f => Sys2Proof.Machine.execCrc32Val f s
  | .escEnc f => Sys2Proof.Machine.execEscEnc f s
  | .escDec e => Sys2Proof.Machine.execEscDec e s
  | .sfspWrap f => Sys2Proof.Machine.execSfspWrap f s
  | .sfspRxb b => Sys2Proof.Machine.execSfspRxb b s
  | .pjonBuild p => Sys2Proof.Machine.execPjonBuild p s
  | .pjonParse f => Sys2Proof.Machine.execPjonParse f s
  | .pjonSend p => Sys2Proof.Machine.execPjonSend p s
  | .pjonRecv t e => Sys2Proof.Machine.execPjonRecv t e s
  | .s9Psel a d => Sys2Proof.Machine.execS9Psel a d s
  | .s9Build a d => Sys2Proof.Machine.execS9Build a d s
  | .s9Parse c => Sys2Proof.Machine.execS9Parse c s
  | .s9Tx a d => Sys2Proof.Machine.execS9Tx a d s
  | .t9Build d => Sys2Proof.Machine.execT9Build d s
  | .t9Val e f => Sys2Proof.Machine.execT9Val e f s
  | .t9Send d => Sys2Proof.Machine.execT9Send d s
  | .t9Recv t e => Sys2Proof.Machine.execT9Recv t e s
  | .pktEnc port ptype address param => Sys2Proof.Machine.execPktEnc port ptype address param s
  | .pktRsp r => Sys2Proof.Machine.execPktRsp r s
  | .pktU16 p => Sys2Proof.Machine.execPktU16 p s
  | .xchSend port ptype address param e => Sys2Proof.Machine.execXchSend port ptype address param e s
  | .xchQuery port reg param => Sys2Proof.Machine.execXchQuery port reg param s
  | .xchControl port reg value => Sys2Proof.Machine.execXchControl port reg value s

end Sys2Proof.Machine
end

