-- ==== Sys2Proof/Machine/Command.lean ====
section
/-! DEFINITION. What a command on `cmd` does: decode and run, or refuse (spec/60_exceptions.md R384, R395). -/

namespace Sys2Proof.Machine

/-- The refusal of a byte string that is no command, in the order of R384: a reserved `OPSEL` before `Busy`, `Busy`
before a misfit of length or must-be-zero bits, unless the command is `RESET`, whose `OPSEL` is 0 (DEDUCED, log entry
22). -/
def refuseCommand (e : DecodeError) (s : State) : State :=
  match e with
  | .reservedOpsel op => s.refuse .illegalOp (op.zeroExtend 16)
  | .badOperands op =>
    if s.busy && op != 0 then s.refuse .busy (s.xchState.code.zeroExtend 16)
    else s.refuse .illegalOperand 0
  | .noOpsel =>
    if s.busy then s.refuse .busy (s.xchState.code.zeroExtend 16) else s.refuse .illegalOperand 0

/-- A command (R395). -/
def runCommand (bytes : Bytes) (s : State) : Host.Outcome State Fault Refusal :=
  match decode bytes with
  | .ok i => exec i s
  | .error e => .next (refuseCommand e s)

/-- One input event, to completion (R395). -/
def runEvent (e : Event) (s : State) : Host.Outcome State Fault Refusal :=
  match e with
  | .cmd bytes => runCommand bytes s
  | .tick => .next (onTick s)
  | .rxChar c => .next (onRxChar c s)
  | .rxByte b => .next (onRxByte b s)
  | .powerOn p => powerOn p s

end Sys2Proof.Machine
end

