-- ==== Sys2Proof/Machine/Step.lean ====
section
/-! DEFINITION. One step of the machine: the oldest pending input event is taken and processed to completion
(spec/60_exceptions.md R395); with none pending, an idle block simply waits (R405; DESIGN CHOICE, log entry 1). -/

namespace Sys2Proof.Machine

/-- One step. -/
def step (s : State) : Host.Outcome State Fault Refusal :=
  match s.events with
  | [] => .next s
  | e :: rest => runEvent e { s with events := rest }

/-- `s` with the command of a table word as its next input event. -/
def State.withFetchWord (s : State) (nbits w : Nat) : State :=
  { s with events := .cmd (tableBytes nbits w) :: s.events }

end Sys2Proof.Machine
end

