-- ==== Sys2Proof/Machine/HostSequences.lean ====
section
/-! DEFINITION. The host's discovery sequences and device sessions (spec/48_host_discovery.md). They are outside the
block (spec/00_scope.md R6) and add no state to it: what the host does next when a query is answered, the loop of
`XCH.QUERY` commands in which it drives the block with them, and the session operations on the block (DESIGN CHOICE,
log entry 18). -/

namespace Sys2Proof.Machine

/-- `device_type` (R362). -/
inductive DeviceType where
  | hub
  | fx
  | mx
  | flexNetDC
  | unknown
  deriving DecidableEq, Repr

/-- The device-type codes, parameters of the sequences (R362). -/
structure DeviceCodes where
  hub       : Byte
  fx        : Byte
  mx        : Byte
  flexNetDC : Byte
  deriving DecidableEq, Repr

/-- The values R362 gives from general knowledge: 1, 2, 3, 4 (PRESUMED, log entry 18). -/
def deviceCodes : DeviceCodes where
  hub := 1
  fx := 2
  mx := 3
  flexNetDC := 4

/-- The type of a code; a code equal to none of the four is `Unknown` (R362). Where two of the OPEN codes are equal, the
first in the order hub, fx, mx, flexNetDC wins (DESIGN CHOICE, log entry 23: no rule says that they differ). -/
def DeviceCodes.typeOf (codes : DeviceCodes) (code : Byte) : DeviceType :=
  if code = codes.hub then .hub
  else if code = codes.fx then .fx
  else if code = codes.mx then .mx
  else if code = codes.flexNetDC then .flexNetDC
  else .unknown

/-- A port of the bus, 0 to 9 (R363, R366). -/
abbrev Port := Fin 10

/-- A port as the operand byte of a command (spec/30_encoding.md R104). -/
def portByte (p : Port) : Byte := BitVec.ofNat 8 p.val

/-- The port after this one, if there is one (R364, R365). -/
def nextPort (p : Port) : Option Port :=
  if h : p.val + 1 < 10 then some ⟨p.val + 1, h⟩ else none

/-- `DeviceDescriptor`; the sequences always leave `revision` absent (R363). -/
structure DeviceDescriptor where
  deviceType : DeviceType
  port       : Byte
  revision   : Option String
  deriving DecidableEq, Repr

/-- `descriptor(type, port)` of R364. -/
def describe (codes : DeviceCodes) (port : Port) (code : Byte) : DeviceDescriptor where
  deviceType := codes.typeOf code
  port := portByte port
  revision := none

/-- `BusTopology`: the mapping from the ports 0 to 9 to the descriptors of those that answered (R363). -/
abbrev BusTopology := Vector (Option DeviceDescriptor) 10

/-- The topology an enumeration starts from: nothing is kept of an earlier one (R363). -/
def emptyTopology : BusTopology := Vector.replicate 10 none

/-- How an `XCH.QUERY` ended: its value, or the kind it failed with. -/
inductive QueryOutcome where
  | value (v : BitVec 16)
  | failed (k : ErrKind)
  deriving DecidableEq, Repr

/-- What the host reads from the answer to an `XCH.QUERY` on `rsp`: the error kind, or with kind 0 the two bytes of the
value (spec/30_encoding.md R107, spec/46_packet_codec.md R304). -/
def readAnswer (r : Bytes) : QueryOutcome :=
  if r.getD 0 0 = 0 then .value (u16be (r.getD 6 0) (r.getD 7 0))
  else .failed (ErrKind.ofCode ((r.getD 0 0).truncate 4))

/-- The command bytes of the query of `scan(port)`: register 0, parameter 0 (R361). -/
def scanCommand (port : Byte) : Bytes := encode (.xchQuery port 0x0000 0)

/-- What `scan` makes of its query: no device, a device-type code (the high byte is masked off), or a failure (R361). -/
def scanResult : QueryOutcome → Except ErrKind (Option Byte)
  | .value v => .ok (some (lo8 v))
  | .failed .noResponse => .ok none
  | .failed k => .error k

/-- A discovery in progress: the port whose scan comes next, and what the sequence has to remember. -/
inductive Discovery where
  | scan (port : Byte)
  | enumerate (port : Port) (found : BusTopology)
  | find (port : Port) (want : DeviceType)
  deriving DecidableEq, Repr

/-- How a discovery ends: a scan with a device-type code or none, an enumeration with the topology, a search with a
port, any of them with a failure. -/
inductive DiscoveryResult where
  | scanned (code : Option Byte)
  | topology (found : BusTopology)
  | foundAt (port : Port)
  | failed (k : ErrKind)
  deriving DecidableEq, Repr

/-- What the host does after an answer: it scans on, or the sequence ends. -/
inductive HostMove where
  | scanNext (d : Discovery)
  | ended (r : DiscoveryResult)
  deriving DecidableEq, Repr

/-- The `port` operand of the discovery's next scan. -/
def Discovery.port : Discovery → Byte
  | .scan port => port
  | .enumerate port _ => portByte port
  | .find port _ => portByte port

/-- `scan(port)` (R361). -/
def startScan (port : Byte) : Discovery := .scan port

/-- `enumerate()` scans port 0 first and builds its topology afresh (R363, R364). -/
def startEnumerate : Discovery := .enumerate 0 emptyTopology

/-- `find_device(device_type)` scans ports 0..9 in order (R365). -/
def startFind (want : DeviceType) : Discovery := .find 0 want

/-- The topology after the scan of a port: an empty port is left out of the mapping (R364). -/
def recordPort (codes : DeviceCodes) (port : Port) (found : BusTopology) (code : Option Byte) : BusTopology :=
  match code with
  | some c => found.set port.val (some (describe codes port c)) port.isLt
  | none => found

/-- The scan of the next port, or at port 9 the end of the enumeration (R364). -/
def enumerateOn (port : Port) (found : BusTopology) : HostMove :=
  match nextPort port with
  | some p => .scanNext (.enumerate p found)
  | none => .ended (.topology found)

/-- One answered scan of `enumerate()`: port 0 must answer, and only a hub there lets the loop go on (R364). -/
def enumerateMove (codes : DeviceCodes) (port : Port) (found : BusTopology) (code : Option Byte) : HostMove :=
  let found' := recordPort codes port found code
  if port = 0 then
    match code with
    | none => .ended (.failed .deviceNotFound)
    | some c => if codes.typeOf c = .hub then enumerateOn port found' else .ended (.topology found')
  else enumerateOn port found'

/-- One answered scan of `find_device` (R365). -/
def findMove (codes : DeviceCodes) (port : Port) (want : DeviceType) (code : Option Byte) : HostMove :=
  if code.map codes.typeOf = some want then .ended (.foundAt port)
  else
    match nextPort port with
    | some p => .scanNext (.find p want)
    | none => .ended (.failed .deviceNotFound)

/-- What the host does when the query of its scan is answered; a failure other than `NoResponse` ends the sequence
(R361, R364). -/
def Discovery.next (codes : DeviceCodes) (d : Discovery) (o : QueryOutcome) : HostMove :=
  match scanResult o with
  | .error k => .ended (.failed k)
  | .ok code =>
    match d with
    | .scan _ => .ended (.scanned code)
    | .enumerate port found => enumerateMove codes port found code
    | .find port want => findMove codes port want code

/-- The logic of a whole sequence, apart from the block: against a bus whose port `p` answers `bus p`, at most `n`
scans, the ports scanned, in order, and how it ends. `hostStep` is the loop over the block itself. -/
def Discovery.run (codes : DeviceCodes) (bus : Byte → QueryOutcome) : Nat → Discovery → List Byte × HostMove
  | 0, d => ([], .scanNext d)
  | n + 1, d =>
    match d.next codes (bus d.port) with
    | .scanNext d' =>
      let (ports, m) := Discovery.run codes bus n d'
      (d.port :: ports, m)
    | .ended r => ([d.port], .ended r)

/-! The loop over the block (R360): the host puts the `XCH.QUERY` of a scan on `cmd`, waits for its answer on `rsp`, and
goes on from what it reads there. -/

/-- Where the host stands in a sequence. -/
inductive HostTask where
  | issue (d : Discovery)
  | await (d : Discovery)
  | ended (r : DiscoveryResult)
  deriving DecidableEq, Repr

/-- The host and the block it drives; the block's pending events are those of the line and of the tick source. -/
structure HostSystem where
  block : State
  task  : HostTask
  deriving DecidableEq, Repr

/-- What the host is to do after an answer. -/
def HostMove.task : HostMove → HostTask
  | .scanNext d => .issue d
  | .ended r => .ended r

/-- The host after a step of the block from `s` to `t` while its query is out: the query has ended when the step sent an
answer, which the host reads. -/
def Discovery.observe (codes : DeviceCodes) (d : Discovery) (s t : State) : HostTask :=
  if s.rsp.length < t.rsp.length then (d.next codes (readAnswer (t.rsp.getLastD []))).task else .await d

/-- The event is a command. -/
def Event.isCommand : Event → Bool
  | .cmd _ => true
  | .tick => false
  | .rxChar _ => false
  | .rxByte _ => false
  | .powerOn _ => false

/-- One step of host and block: to issue a scan the host puts its command in front of the pending events (DESIGN
CHOICE, log entry 18: it does so at once), and the block takes it; while it waits the block takes the oldest pending
event. What the block answers to a command of somebody else is not the answer of the host's query (R366). -/
def hostStep (codes : DeviceCodes) (h : HostSystem) : Host.Outcome HostSystem Fault Refusal :=
  match h.task with
  | .ended _ => .next h
  | .issue d =>
    match step { h.block with events := .cmd (scanCommand d.port) :: h.block.events } with
    | .next t => .next { block := t, task := d.observe codes h.block t }
    | .fault r => .fault r
    | .refused r => .refused r
  | .await d =>
    match step h.block with
    | .next t =>
      .next { block := t
              task := if h.block.events.head?.any Event.isCommand then .await d else d.observe codes h.block t }
    | .fault r => .fault r
    | .refused r => .refused r

/-! Device sessions (R366). -/

/-- A device session: a port, 0 to 9, bound to the block. The block is the one machine of this model, the State that the
session's operations are given; sessions that share it are sessions used on the same State. -/
structure Session where
  port : Port
  deriving DecidableEq, Repr

/-- The creation of a session fixes its port, which must be at most 9; with another there is no session (R366; DESIGN
CHOICE, log entry 18). -/
def createSession (port : Byte) : Option Session :=
  if h : port.toNat < 10 then some { port := ⟨port.toNat, h⟩ } else none

/-- The command bytes of `session.query(reg, param=0)` (R366). -/
def sessionQuery (ses : Session) (reg : BitVec 16) (param : BitVec 16 := 0) : Bytes :=
  encode (.xchQuery (portByte ses.port) reg param)

/-- The command bytes of `session.control(reg, value)` (R366). -/
def sessionControl (ses : Session) (reg value : BitVec 16) : Bytes :=
  encode (.xchControl (portByte ses.port) reg value)

/-- `session.query(reg, param=0)` on the block: the command runs, or is refused with `Busy` while another session's is
in progress (R366). -/
def runSessionQuery (ses : Session) (s : State) (reg : BitVec 16) (param : BitVec 16 := 0) :
    Host.Outcome State Fault Refusal :=
  runCommand (sessionQuery ses reg param) s

/-- `session.control(reg, value)` on the block (R366). -/
def runSessionControl (ses : Session) (s : State) (reg value : BitVec 16) : Host.Outcome State Fault Refusal :=
  runCommand (sessionControl ses reg value) s

end Sys2Proof.Machine
end

