-- ==== Sys2Proof/Safety.lean ====
section
/-! DEFINITION. The terms the statements use: an idle block, the invariants of every step, runs over pending events, and
the wire traces as the spec writes them. -/

namespace Sys2Proof.Machine

/-- The block is idle: no exchange and no receive is in progress (spec/47_exchange.md R338). -/
abbrev State.Idle (s : State) : Prop :=
  (s.xchState = .idle ∨ s.xchState = .done ∨ s.xchState = .failed) ∧ s.t9State = .off ∧ s.pjfRxstate = .off

/-- The configuration registers are those of a legal parameter set (spec/10_state.md R21, R22). -/
abbrev State.ConfigLoaded (s : State) : Prop := s.params.legal = true ∧ s.cfg = Cfg.load s.params

/-- `CHK16.ACC` never holds `0xFFFF` (R23). -/
abbrev State.Chk16InRange (s : State) : Prop := s.chk16Acc.toNat ≤ 65534

/-- Every buffer holds at most `MAXBUF` bytes, and `RXTAG` is as long as `RXBUF` (R26, R27, R33; spec/20_memory.md
R61). -/
abbrev State.BuffersBounded (s : State) : Prop :=
  s.txbuf.length ≤ s.params.maxbuf ∧ s.rxbuf.length ≤ s.params.maxbuf ∧
    s.rxtag.length = s.rxbuf.length ∧ s.xchResp.length ≤ s.params.maxbuf

/-- At most one receive runs, its timer has not expired, a 9-bit receive that waits for its first byte has none, and
while a receive runs `RXBUF` is no frame that may be read (R29, R31, R39; spec/60_exceptions.md R402; the validity bit
is DEDUCED, log entry 10). -/
abbrev State.ReceivesConsistent (s : State) : Prop :=
  (s.t9State ≠ .off → s.pjfRxstate = .off ∧ s.t9Timer ≠ 0) ∧
    (s.pjfRxstate = .listen → s.pjfTimer ≠ 0 ∧ s.pjfTimeout ≠ 0) ∧
    (s.t9State = .waitFirst → s.rxbuf = []) ∧
    (s.t9State ≠ .off ∨ s.pjfRxstate = .listen → s.rxbufValid = false)

/-- Between two events the exchange is in `Idle`, `AwaitingResponse`, `Done` or `Failed`; while it awaits a response the
receive of its transport runs; its counters and its payload agree with its state (R33; spec/47_exchange.md R320,
R327, R332). -/
abbrev State.ExchangeConsistent (s : State) : Prop :=
  (s.xchState = .idle ∨ s.xchState = .awaitingResponse ∨ s.xchState = .done ∨ s.xchState = .failed) ∧
    (s.xchState = .awaitingResponse → s.cfg.transport = .ser9 → s.t9State ≠ .off) ∧
    (s.xchState = .awaitingResponse → s.cfg.transport = .pjon → s.pjfRxstate = .listen) ∧
    s.xchRetries ≤ s.cfg.retryPacket ∧
    (s.xchState ≠ .idle → s.xchAttempts.toNat = s.xchRetries.toNat + 1) ∧
    (s.xchState ≠ .done → s.xchResp = []) ∧
    (s.xchState = .failed → s.xchLasterr ≠ none)

/-- `n` steps, stopping where a step has no next state. -/
def runSteps : Nat → State → Host.Outcome State Fault Refusal
  | 0, s => .next s
  | n + 1, s =>
    match step s with
    | .next s' => runSteps n s'
    | .fault r => .fault r
    | .refused r => .refused r

/-- The pending events of `s` lead to `u`, and no answer goes out before the last of them. -/
def State.EndsIn (s u : State) : Prop :=
  runSteps s.events.length s = .next u ∧
    ∀ k, k < s.events.length → ∃ w : State, runSteps k s = .next w ∧ w.rsp = s.rsp

/-- `n` steps of the host and the block it drives, stopping where one has no next state. -/
def runHost (codes : DeviceCodes) : Nat → HostSystem → Host.Outcome HostSystem Fault Refusal
  | 0, h => .next h
  | n + 1, h =>
    match hostStep codes h with
    | .next h' => runHost codes n h'
    | .fault r => .fault r
    | .refused r => .refused r

/-- Operations one after another, stopping where one has no next state. -/
def execSeq : List Instr → State → Host.Outcome State Fault Refusal
  | [], s => .next s
  | i :: is, s =>
    match exec i s with
    | .next s' => execSeq is s'
    | .fault r => .fault r
    | .refused r => .refused r

/-- The exact integer sum of a byte sequence (spec/40_chk16.md R131). -/
def byteSum (d : Bytes) : Nat := (d.map BitVec.toNat).sum

/-- The character of a 9-bit symbol: `(d << 1) OR (a << 9) OR 0x400` (spec/44_serial9.md R247). -/
def symbolChar (a : Bool) (d : Byte) : BitVec 11 :=
  (d.zeroExtend 11 <<< 1) ||| (if a then 0x200 else 0) ||| 0x400

/-- The line events of one symbol of a 9-bit frame (spec/44_serial9.md R248, spec/45_transport9.md R272). -/
def symbolTrace (cfg : Cfg) (a : Bool) (d : Byte) : List LineEvent :=
  [.pmode (selectMode cfg.spacemark a d), .char (symbolChar a d), .flush] ++
    (if cfg.spacemark then [] else [.delay cfg.interbyteDelay])

/-- The line events of a frame's bytes: the address bit on the first only (spec/45_transport9.md R270, R272). -/
def frameTrace (cfg : Cfg) : Bytes → List LineEvent
  | [] => []
  | b :: bs => symbolTrace cfg true b ++ bs.flatMap (symbolTrace cfg false)

/-- The characters of a frame's bytes (R270, R272). -/
def frameChars : Bytes → List (BitVec 11)
  | [] => []
  | b :: bs => symbolChar true b :: bs.map (symbolChar false)

/-- Checks 1 to 7 of spec/43_pjon_frame.md R207 all pass: the frame is long enough, addressed to the block or to
everyone, its header supported, its header CRC, its length and its trailing CRC right (R208 to R212, R215). -/
def pjonFrameOk (deviceId : Byte) (f : Bytes) : Bool :=
  let n := f.length
  let hdr := f.getD 1 0
  decide (6 ≤ n) && (f.getD 0 0 == deviceId || f.getD 0 0 == 0x00) && (hdr == 0x02 || hdr == 0x22) &&
    (crc8 (f.take 3) == f.getD 3 0) && ((f.getD 2 0).toNat == n) &&
    (if hdr = 0x22 then decide (9 ≤ n) && (be32 (crc32 (f.take (n - 4))) == f.drop (n - 4))
     else decide (n ≤ 15) && (crc8 (f.take (n - 1)) == f.getD (n - 1) 0))

/-- The first check of `PJON.PARSE` that fails, in the order of spec/43_pjon_frame.md R207, with its info; none where
every check passes (R208 to R213, R215). -/
def pjonVerdict (deviceId : Byte) (f : Bytes) : Option (ErrKind × BitVec 16) :=
  let n := f.length
  let hdr := f.getD 1 0
  let hc := crc8 (f.take 3)
  let p := (f.take (n - (if hdr = 0x22 then 4 else 1))).drop 5
  if n < 6 then some (.frameTooShort, BitVec.ofNat 16 n)
  else if f.getD 0 0 ≠ deviceId ∧ f.getD 0 0 ≠ 0x00 then some (.notAddressedToUs, (f.getD 0 0).zeroExtend 16)
  else if hdr ≠ 0x02 ∧ hdr ≠ 0x22 then some (.unsupportedHeaderBit, hdr.zeroExtend 16)
  else if hc ≠ f.getD 3 0 then some (.headerCrcMismatch, hc.zeroExtend 16)
  else if (f.getD 2 0).toNat ≠ n then some (.lengthMismatch, BitVec.ofNat 16 n)
  else if hdr = 0x02 ∧ 15 < n then some (.unsupportedHeaderBit, hdr.zeroExtend 16)
  else if hdr = 0x22 ∧ n < 9 then some (.frameTooShort, BitVec.ofNat 16 n)
  else if hdr = 0x02 ∧ f.drop (n - 1) ≠ [crc8 (f.take (n - 1))] then
    some (.payloadCrcMismatch, (crc8 (f.take (n - 1))).zeroExtend 16)
  else if hdr = 0x22 ∧ f.drop (n - 4) ≠ be32 (crc32 (f.take (n - 4))) then
    some (.payloadCrcMismatch, (crc32 (f.take (n - 4))).truncate 16)
  else if p.length = 1 ∧ p ≠ [0] then some (.remoteError, (p.getD 0 0).zeroExtend 16)
  else none

/-- The payload of a frame that passes every check (R207). -/
def pjonPayload (f : Bytes) : Bytes := (f.take (f.length - (if f.getD 1 0 = 0x22 then 4 else 1))).drop 5

/-- Among the bytes that wait in `RXQ` there stands a whole frame `f` in its wire form: `START`, an escaped form of `f`,
`END` (spec/30_encoding.md R99, spec/42_pjon_escape.md R183). -/
def FrameWaiting (q : List RxItem) (f : Bytes) : Prop :=
  ∃ pre enc post : Bytes, unescape enc = .ok f ∧
    q.filterMap (fun | .char _ => none | .byte b => some b) = pre ++ 0x95 :: (enc ++ 0xEA :: post)

/-- Bytes on the PJON line, each after some ticks. -/
def pacedBytes (l : List (Nat × Byte)) : List Event :=
  l.flatMap fun x => List.replicate x.1 .tick ++ [.rxByte x.2]

/-- Well-formed characters on the 9-bit line, each an address bit and a byte, after some ticks. -/
def pacedSymbols (l : List (Nat × Bool × Byte)) : List Event :=
  l.flatMap fun x => List.replicate x.1 .tick ++ [.rxChar (symbolChar x.2.1 x.2.2)]

/-- The answer with a byte string: kind 0, info 0, tag 1, the length, the bytes (spec/30_encoding.md R107). -/
def valueRsp (bs : Bytes) : Bytes := [0x00, 0x00, 0x00, 0x01] ++ be16 (rspLength bs.length) ++ bs

/-- The answer of a result-less success: tag 2 (R107). -/
def voidRsp : Bytes := [0x00, 0x00, 0x00, 0x02, 0x00, 0x00]

/-- The answer `None`: tag 0 without an error (R107). -/
def noneRsp : Bytes := [0x00, 0x00, 0x00, 0x00, 0x00, 0x00]

/-- The answer of an error or a refusal: the code, the info, tag 0 and no bytes (R107, spec/60_exceptions.md R386). -/
def errorRsp (code : Byte) (info : BitVec 16) : Bytes := [code, hi8 info, lo8 info, 0x00, 0x00, 0x00]

/-- A successful end: the error registers are cleared and one answer is sent (R386). -/
def State.answered (r : Bytes) (s : State) : State :=
  { s with errKind := .none, errInfo := 0, rsp := s.rsp ++ [r] }

/-- An end with an error outside an exchange: it is recorded in the error registers and sent (R386). -/
def State.ended (k : ErrKind) (info : BitVec 16) (s : State) : State :=
  { s with errKind := k, errInfo := info, rsp := s.rsp ++ [errorRsp (k.code.zeroExtend 8) info] }

/-- One bit of a byte string flipped. -/
def flipBit (f : Bytes) (j k : Nat) : Bytes := f.set j (f.getD j 0 ^^^ (1#8 <<< k))

/-- The six bytes of a packet body (spec/30_encoding.md R93). -/
def packetBody (port ty : Byte) (address param : BitVec 16) : Bytes :=
  [port, ty, hi8 address, lo8 address, hi8 param, lo8 param]

/-- What one attempt puts on the line for a request body: a 9-bit frame, or an escaped PJON frame (spec/47_exchange.md
R323; spec/43_pjon_frame.md R205). -/
def requestTrace (cfg : Cfg) (body : Bytes) : List LineEvent :=
  match cfg.transport with
  | .ser9 => frameTrace cfg (body ++ be16 (chk16 body))
  | .pjon => (sfspWrap (pjonFrame cfg.targetId cfg.deviceId body)).map .byteOut

/-- The operation that starts an exchange (spec/47_exchange.md R321, R335, R336): a query and a control choose their
type and their expected length themselves. -/
def exchangeCommand (op : XchOp) (port ty : Byte) (address param : BitVec 16) (e : Option (BitVec 16)) : Instr :=
  match op with
  | .send => .xchSend port ty address param e
  | .query => .xchQuery port address param
  | .control => .xchControl port address param

/-- The oldest pending event is a command that starts a PJON receive, by itself or as an exchange. -/
def State.StartsReceive (s : State) : Prop :=
  ∃ (bytes : Bytes) (rest : List Event) (i : Instr), s.events = .cmd bytes :: rest ∧ decode bytes = .ok i ∧
    ((∃ t e, i = .pjonRecv t e) ∨ ∃ op port ty ad pa e, i = exchangeCommand op port ty ad pa e)

/-- The packet type of the request (R335, R336). -/
def exchangeType (op : XchOp) (ty : Byte) : Byte :=
  match op with
  | .send => ty
  | .query => 2
  | .control => 3

/-- The expected payload length of the exchange (R335, R336). -/
def exchangeExpected (op : XchOp) (e : Option (BitVec 16)) : Option (BitVec 16) :=
  match op with
  | .send => e
  | .query => some 2
  | .control => none

/-- The answer to an exchange that ended in `Done` with payload `p` (R321, R335, R336). -/
def exchangeAnswer (op : XchOp) (p : Bytes) : Bytes :=
  match op with
  | .send => valueRsp p
  | .query => if p.length = 2 then valueRsp p else errorRsp 0x0B (BitVec.ofNat 16 p.length)
  | .control => voidRsp

/-- The line events by which a peer answers with response `r`: a 9-bit frame and the idle gap, or a PJON frame for this
block (spec/45_transport9.md R280, spec/43_pjon_frame.md R206). -/
def responseEvents (cfg : Cfg) (sender : Byte) (r : Bytes) : List Event :=
  match cfg.transport with
  | .ser9 => (frameChars (r ++ be16 (chk16 r))).map .rxChar ++ List.replicate cfg.eopIdle.toNat .tick
  | .pjon => (sfspWrap (pjonFrame cfg.deviceId sender r)).map .rxByte

/-- Line events that make one attempt of an exchange with expected payload length `e` fail retryably, with the error it
leaves in `XCH.LASTERR` (spec/47_exchange.md R325 to R327): silence for the timeout, on either line; on the 9-bit line a
frame with a wrong check; on the PJON line a frame that fails a check of a retryable kind, a frame for another device,
or a malformed frame. -/
inductive FailedAttempt (cfg : Cfg) (maxbuf : Nat) (e : Option (BitVec 16)) : List Event → ErrKind × BitVec 16 → Prop
  | silence : FailedAttempt cfg maxbuf e (List.replicate cfg.rxTimeout.toNat .tick) (.noResponse, 0)
  | damaged (d : Bytes) (hi lo : Byte) :
      cfg.transport = .ser9 → d ≠ [] → d.length + 2 ≤ maxbuf → (∀ v, e = some v → d.length ≤ v.toNat + 1) →
      chk16 d ≠ u16be hi lo →
      FailedAttempt cfg maxbuf e
        ((frameChars (d ++ [hi, lo])).map .rxChar ++ List.replicate cfg.eopIdle.toNat .tick)
        (.checksumMismatch, chk16 d)
  | badFrame (f : Bytes) (k : ErrKind) (info : BitVec 16) :
      cfg.transport = .pjon → f.length ≤ maxbuf → pjonVerdict cfg.deviceId f = some (k, info) → k.retryable = true →
      FailedAttempt cfg maxbuf e ((sfspWrap f).map .rxByte) (k, info)
  | otherDevice (f : Bytes) (info : BitVec 16) :
      cfg.transport = .pjon → f.length ≤ maxbuf → pjonVerdict cfg.deviceId f = some (.notAddressedToUs, info) →
      FailedAttempt cfg maxbuf e ((sfspWrap f).map .rxByte) (.noResponse, 0)
  | malformed (g : Bytes) :
      cfg.transport = .pjon → g.length ≤ maxbuf →
      FailedAttempt cfg maxbuf e ((0x95 :: (escape g ++ [0xBB, 0xEA])).map .rxByte)
        (.malformedFrame, BitVec.ofNat 16 g.length)

/-- The exchange registers of an exchange that has sent its first attempt (spec/47_exchange.md R322, R323). -/
def State.exchangeBegun (op : XchOp) (body : Bytes) (e : Option (BitVec 16)) (s : State) : State :=
  { s with
    xchState := .awaitingResponse
    xchOp := op
    xchReq := body.foldl (fun v b => (v <<< 8) ||| b.zeroExtend 48) 0
    xchExplen := e
    xchRetries := 0
    xchAttempts := 1
    xchLasterr := none
    xchResp := [] }

/-- A 9-bit attempt has been sent and its receive waits for the first byte (R323, R324; spec/45_transport9.md R272,
R276). -/
def State.sent9 (body : Bytes) (e : Option (BitVec 16)) (s : State) : State :=
  { s with
    txbuf := body ++ be16 (chk16 body)
    chk16Acc := chk16 body
    s9Pmode := .known (selectMode s.cfg.spacemark false (lo8 (chk16 body)))
    lineTx := s.lineTx ++ frameTrace s.cfg (body ++ be16 (chk16 body))
    t9State := .waitFirst
    t9Timer := s.cfg.rxTimeout
    t9Explen := e
    t9Ovf := false
    rxbuf := []
    rxtag := []
    rxbufValid := false }

/-- A PJON attempt with a 6-byte body has been sent and its receive listens (R323, R324; spec/43_pjon_frame.md R203,
R205, R214). -/
def State.sentPjon (body : Bytes) (s : State) : State :=
  { s with
    txbuf := pjonFrame s.cfg.targetId s.cfg.deviceId body
    crc8Reg := crc8 (pjonBody s.cfg.targetId s.cfg.deviceId body)
    lineTx := s.lineTx ++ (sfspWrap (pjonFrame s.cfg.targetId s.cfg.deviceId body)).map .byteOut
    pjfRxstate := .listen
    pjfTimer := s.cfg.rxTimeout
    pjfTimeout := s.cfg.rxTimeout
    escState := .hunt
    rxbuf := []
    rxtag := []
    rxbufValid := false }

end Sys2Proof.Machine
end

