-- ==== Sys2Proof/Certificates/Slice0/Obligations.lean ====
section
/-! DEFINITION. The statements for the provers, family by family. Unless a docstring says otherwise a conclusion gives
the whole next state, so that it is the frame as well: whatever the record does not name is unchanged. -/

open Sys2Proof Sys2Proof.Machine

/-! ## Commands -/

/-- A step runs the decoded command: the oldest pending event is taken, and a command whose bytes decode to a
well-formed operation is that operation's `exec` on the state without the event (spec/60_exceptions.md section 3). -/
def Obligations.StepRunsDecodedCommand : Prop :=
  ∀ (s : State) (bytes : Bytes) (rest : List Event) (i : Instr),
    s.events = .cmd bytes :: rest → decode bytes = .ok i → i.wf = true →
      step s = exec i { s with events := rest }

/-- Commands written out in spec/95_test_vectors.md section 3 decode to the operations they stand for. -/
def Obligations.SpecCommandsDecode : Prop :=
  decode [0x91, 0x00, 0x00, 0x02, 0x00, 0x00] = .ok (.xchQuery 0 0x0002 0) ∧
  decode [0x90, 0x01, 0x04, 0x00, 0x01, 0x00, 0x00, 0xFF, 0xFF] = .ok (.xchSend 1 4 0x0001 0 none) ∧
  decode [0x92, 0x01, 0x12, 0x34, 0xAB, 0xCD] = .ok (.xchControl 1 0x1234 0xABCD) ∧
  decode [0x11, 0x02] = .ok (.chk16Upd 0x02) ∧
  decode [0x40, 0x00, 0x05, 0x01, 0x95, 0xEA, 0xBB, 0xED] = .ok (.escEnc [0x01, 0x95, 0xEA, 0xBB, 0xED]) ∧
  decode [0x80, 0x00, 0x02, 0x00, 0x02, 0x00, 0x00] = .ok (.pktEnc 0 2 0x0002 0) ∧
  decode [0x0F] = .error (.reservedOpsel 0x0F) ∧
  decode [0x11] = .error (.badOperands 0x11) ∧
  decode [0x60, 0x02, 0x00] = .error (.badOperands 0x60)

/-- Every well-formed operation is read back from its command, with every operand at every value the format admits. -/
def Obligations.DecodeOfEncode : Prop :=
  ∀ i : Instr, i.wf = true → decode (encode i) = .ok i

/-- Every command that decodes is the encoding of the operation read, which is well-formed: each command has one
meaning and each meaning one command. -/
def Obligations.EncodeOfDecode : Prop :=
  ∀ (bytes : Bytes) (i : Instr), decode bytes = .ok i → i.wf = true ∧ encode i = bytes

/-- R106: a reserved `OPSEL`, whatever follows it, is refused with `IllegalOp` and its value as info; nothing changes
but the error registers, which a busy block does not write either (R384). -/
def Obligations.ReservedOpselRefused : Prop :=
  ∀ (s : State) (op : Byte) (operands : Bytes) (rest : List Event),
    op.toNat ∉ [0x00, 0x10, 0x11, 0x12, 0x13, 0x20, 0x21, 0x22, 0x23, 0x30, 0x31, 0x32, 0x33, 0x40, 0x41, 0x42, 0x43,
      0x50, 0x51, 0x52, 0x53, 0x60, 0x61, 0x62, 0x63, 0x70, 0x71, 0x72, 0x73, 0x80, 0x81, 0x82, 0x90, 0x91, 0x92] →
    s.events = .cmd (op :: operands) :: rest →
      (s.Idle → step s = .next (({ s with events := rest } : State).ended .illegalOp (op.zeroExtend 16))) ∧
      (¬ s.Idle → step s = .next
        { s with events := rest, rsp := s.rsp ++ [errorRsp 0x0D (op.zeroExtend 16)] })

/-- The order of the refusal checks for a command whose operand bytes do not fit its format: `Busy` before
`IllegalOperand` (spec/60_exceptions.md section 2). Two clauses are the model's reading: that a misfit command whose
`OPSEL` is 0 counts as `RESET` there, so that a busy block answers `IllegalOperand` and not `Busy` (DEDUCED, log entry
22), and what a command of no bytes is answered (DESIGN CHOICE, log entry 6). -/
def Obligations.MisfitCommandRefused : Prop :=
  (∀ (s : State) (bytes : Bytes) (op : Byte) (rest : List Event),
    decode bytes = .error (.badOperands op) → s.events = .cmd bytes :: rest →
      (s.Idle → step s = .next (({ s with events := rest } : State).ended .illegalOperand 0)) ∧
      (¬ s.Idle → op ≠ 0 → step s = .next
        { s with events := rest, rsp := s.rsp ++ [errorRsp 0x0F (s.xchState.code.zeroExtend 16)] }) ∧
      (¬ s.Idle → op = 0 → step s = .next { s with events := rest, rsp := s.rsp ++ [errorRsp 0x0E 0] })) ∧
  (∀ (s : State) (rest : List Event), s.events = .cmd [] :: rest →
      (s.Idle → step s = .next (({ s with events := rest } : State).ended .illegalOperand 0)) ∧
      (¬ s.Idle → step s = .next
        { s with events := rest, rsp := s.rsp ++ [errorRsp 0x0F (s.xchState.code.zeroExtend 16)] }))

/-- R338: while an exchange or a receive is in progress every operation but `RESET` is refused with `Busy`, its info
`XCH.STATE`; nothing changes, the error registers included (R384). -/
def Obligations.BusyRefusesEveryOperation : Prop :=
  ∀ (s : State) (i : Instr), ¬ s.Idle → i ≠ .reset →
    exec i s = .next { s with rsp := s.rsp ++ [errorRsp 0x0F (s.xchState.code.zeroExtend 16)] }

/-- Operands outside the limits of an operation's rule: the operation is refused with `IllegalOperand` and nothing but
the error registers changes (spec/60_exceptions.md section 2, check 3). -/
def Obligations.IllegalOperandsRefused : Prop :=
  ∀ s : State, s.Idle →
    (∀ d : Bytes, s.params.maxbuf < d.length →
      exec (.chk16Gen d) s = .next (s.ended .illegalOperand 0) ∧
      exec (.crc8Gen d) s = .next (s.ended .illegalOperand 0) ∧
      exec (.crc32Gen d) s = .next (s.ended .illegalOperand 0) ∧
      exec (.escEnc d) s = .next (s.ended .illegalOperand 0) ∧
      exec (.sfspWrap d) s = .next (s.ended .illegalOperand 0)) ∧
    (∀ d : Bytes, d = [] ∨ s.params.maxbuf < d.length + 2 →
      exec (.t9Build d) s = .next (s.ended .illegalOperand 0) ∧
      exec (.t9Send d) s = .next (s.ended .illegalOperand 0)) ∧
    (∀ p : Bytes, 246 < p.length →
      exec (.pjonBuild p) s = .next (s.ended .illegalOperand 0) ∧
      exec (.pjonSend p) s = .next (s.ended .illegalOperand 0)) ∧
    (∀ e : Option (BitVec 16),
      exec (.t9Recv 0 e) s = .next (s.ended .illegalOperand 0) ∧
      exec (.pjonRecv 0 e) s = .next (s.ended .illegalOperand 0)) ∧
    (∀ (port ty : Byte) (ad pa : BitVec 16) (e : Option (BitVec 16)),
      9 < port.toNat ∨ ty.toNat ∉ [2, 3, 4, 22] →
      exec (.pktEnc port ty ad pa) s = .next (s.ended .illegalOperand 0) ∧
      exec (.xchSend port ty ad pa e) s = .next (s.ended .illegalOperand 0)) ∧
    (∀ (port : Byte) (reg v : BitVec 16), 9 < port.toNat →
      exec (.xchQuery port reg v) s = .next (s.ended .illegalOperand 0) ∧
      exec (.xchControl port reg v) s = .next (s.ended .illegalOperand 0))

/-! ## Reset -/

/-- `RESET` gives every register and buffer the reset value of R41 and `CFG.*` the parameters, and empties `RXQ`; it is
accepted also while the block is busy, emits nothing on the line, and answers with a result-less success only, so that
an interrupted operation never answers (R420). That the answers already sent, the line trace and the events still to
arrive survive it is the model's choice (DESIGN CHOICE, log entry 4). -/
def Obligations.ResetRestoresEveryRegister : Prop :=
  decode [0x00] = .ok .reset ∧
  ∀ s : State, ∃ t : State, exec .reset s = .next t ∧
    t.params = s.params ∧ t.cfg = Cfg.load s.params ∧
    t.chk16Acc = 0x0000 ∧ t.crc8Reg = 0x00 ∧ t.crc32Reg = 0xFFFFFFFF ∧
    t.txbuf = [] ∧ t.rxbuf = [] ∧ t.rxtag = [] ∧ t.xchResp = [] ∧
    t.escState = .hunt ∧ t.pjfRxstate = .off ∧ t.pjfTimer = 0 ∧ t.pjfSender = 0x00 ∧ t.pjfHdr = 0x00 ∧
    t.s9Pmode = .unknown ∧ t.s9Ferr = false ∧ t.t9Ovf = false ∧
    t.t9State = .off ∧ t.t9Timer = 0 ∧ t.t9Explen = none ∧
    t.xchState = .idle ∧ t.xchRetries = 0 ∧ t.xchAttempts = 0 ∧ t.xchReq = 0 ∧ t.xchExplen = none ∧
    t.xchLasterr = none ∧ t.errKind = .none ∧ t.errInfo = 0 ∧ t.rxq = [] ∧
    t.rsp = s.rsp ++ [voidRsp] ∧ t.lineTx = s.lineTx ∧ t.events = s.events

/-- A power-on reset loads a legal parameter set, in any state, and is refused for an illegal one (spec/10_state.md
section 2). The event, the channels it keeps and the implied registers are the model's: log entries 3, 4 and 14. -/
def Obligations.PowerOnLoadsLegalParameters : Prop :=
  ∀ (s : State) (p : Params) (rest : List Event), s.events = .powerOn p :: rest →
    (p.eopIdleTicks ≠ 0 → p.rxTimeoutTicks ≠ 0 → 255 ≤ p.maxbuf →
      step s = .next { State.ofParams p with events := rest, rsp := s.rsp, lineTx := s.lineTx }) ∧
    (p.eopIdleTicks = 0 ∨ p.rxTimeoutTicks = 0 ∨ p.maxbuf < 255 → step s = .refused .illegalParameters)

/-- The reset state is idle and meets every invariant of the model. Its parameters are the model's choice, log entry 2. -/
def Obligations.ResetStateMeetsInvariants : Prop :=
  State.reset.Idle ∧ State.reset.ConfigLoaded ∧ State.reset.Chk16InRange ∧ State.reset.BuffersBounded ∧
    State.reset.ReceivesConsistent ∧ State.reset.ExchangeConsistent

/-- Reads of registers that hold no value yield none (spec/10_state.md section 6). `XCH.RESP` can be read only in `Done`.
`RXBUF` can be read neither while a receive runs nor after one that did not return data: a step that ends a stand-alone
receive leaves it readable only with an answer of data, one that ends the receive of an exchange only where the exchange
ends in `Done` or by the validation of the data received (or would fail alike); a step of an idle block makes it
readable only by a PJON receive that takes from `RXQ` a frame passing every check, which `RXBUF` then holds.
`PJON.PARSE` of a frame that passes every check makes `PJF.SENDER` readable as that frame's, a remote error makes it
unreadable, any other failure leaves it. No step makes it readable otherwise than by such a `PJON.PARSE`, or by a
receive that gets a frame passing every check, left in `RXBUF`: what `RXBUF` held when `END` arrived, or a frame that
waited in `RXQ`. After reset none of the three yields a value. That the conditions on `RXBUF` and `PJF.SENDER` are kept
in fields of the model is DEDUCED, log entries 9 and 10; that a receive may end on waiting bytes in the event that
starts it is DEDUCED, log entry 12. -/
def Obligations.ReadsWithoutValueAreRefused : Prop :=
  (∀ s : State, s.xchState ≠ .done → s.readXchResp = none) ∧
  (∀ s : State, s.xchState = .done → s.readXchResp = some s.xchResp) ∧
  (∀ s : State, s.ReceivesConsistent → s.t9State ≠ .off ∨ s.pjfRxstate = .listen → s.readRxbuf = none) ∧
  (∀ s s' : State, s.ReceivesConsistent → s.t9State ≠ .off ∨ s.pjfRxstate = .listen →
    s.xchState ≠ .awaitingResponse → step s = .next s' → s'.readRxbuf ≠ none →
      (∃ bs, s'.rsp = s.rsp ++ [valueRsp bs]) ∧ s'.readRxbuf = some s'.rxbuf ∧
        s'.t9State = .off ∧ s'.pjfRxstate = .off) ∧
  (∀ s s' : State, s.ReceivesConsistent → s.t9State ≠ .off ∨ s.pjfRxstate = .listen →
    s.xchState = .awaitingResponse → step s = .next s' → s'.readRxbuf ≠ none →
      s'.xchState = .done ∨ (s'.xchState = .failed ∧ (s'.errKind = .frameTooShort ∨ s'.errKind = .invalidCommandAck))) ∧
  (∀ s s' : State, s.Idle → step s = .next s' → s.readRxbuf = none → s'.readRxbuf ≠ none →
    s.StartsReceive ∧ s'.readRxbuf = some s'.rxbuf ∧ FrameWaiting s.rxq s'.rxbuf ∧
      pjonVerdict s.cfg.deviceId s'.rxbuf = none) ∧
  (∀ (s : State) (f : Bytes), s.Idle → ∃ t : State, exec (.pjonParse f) s = .next t ∧
    t.readPjfSender = (match pjonVerdict s.cfg.deviceId f with
      | none => some (f.getD 4 0)
      | some (.remoteError, _) => none
      | some _ => s.readPjfSender)) ∧
  (∀ s s' : State, step s = .next s' → s.readPjfSender = none → s'.readPjfSender ≠ none →
    (∃ (bytes f : Bytes) (rest : List Event), s.events = .cmd bytes :: rest ∧ decode bytes = .ok (.pjonParse f) ∧
      pjonVerdict s.cfg.deviceId f = none ∧ s'.readPjfSender = some (f.getD 4 0)) ∨
    (pjonVerdict s.cfg.deviceId s'.rxbuf = none ∧ s'.readPjfSender = some (s'.rxbuf.getD 4 0) ∧
      s'.readRxbuf = some s'.rxbuf ∧
      ((∃ rest, s.events = .rxByte 0xEA :: rest ∧ s.pjfRxstate = .listen ∧ s.escState = .body ∧ s'.rxbuf = s.rxbuf) ∨
        ((s.StartsReceive ∨ s.xchState = .awaitingResponse) ∧ FrameWaiting s.rxq s'.rxbuf)))) ∧
  (∀ s : State, ∃ t : State, exec .reset s = .next t ∧
    t.readXchResp = none ∧ t.readRxbuf = none ∧ t.readPjfSender = none)

/-! ## Whole-machine invariants -/

/-- The configuration registers stay those of the parameters, which only a power-on reset changes: no operation and no
line event writes a `CFG` register (spec/10_state.md section 2). -/
def Obligations.StepKeepsConfiguration : Prop :=
  ∀ s s' : State, s.ConfigLoaded → step s = .next s' →
    s'.ConfigLoaded ∧ ((∀ p rest, s.events ≠ .powerOn p :: rest) → s'.params = s.params ∧ s'.cfg = s.cfg)

/-- `CHK16.ACC` stays in `0..65534` (spec/10_state.md section 3). -/
def Obligations.StepKeepsChk16InRange : Prop :=
  ∀ s s' : State, s.Chk16InRange → step s = .next s' → s'.Chk16InRange

/-- No buffer ever exceeds `MAXBUF`, and `RXTAG` stays as long as `RXBUF` (spec/10_state.md section 3; that `RXTAG`
follows `RXBUF` under PJON is log entry 8). -/
def Obligations.StepKeepsBuffersBounded : Prop :=
  ∀ s s' : State, s.ConfigLoaded → s.BuffersBounded → step s = .next s' → s'.BuffersBounded

/-- At most one receive runs, with a live timer; the exchange is between events only in `Idle`, `AwaitingResponse`,
`Done` or `Failed`, its transport's receive runs while it awaits, its retries stay within `CFG.RETRY_PACKET`, its
attempts are one more, and `XCH.RESP` is empty outside `Done` (spec/47_exchange.md section 1). The bound on the timers of the
implied registers is the model's, log entry 14. -/
def Obligations.StepKeepsReceivesAndExchange : Prop :=
  ∀ s s' : State, s.ConfigLoaded → s.ReceivesConsistent → s.ExchangeConsistent → step s = .next s' →
    s'.ReceivesConsistent ∧ s'.ExchangeConsistent

/-- A step sends at most one answer, after those already sent; an answer with an error code carries tag 0 and no byte of
data; the line trace only grows (spec/60_exceptions.md section 1, spec/20_memory.md section 6; that `rsp` and `line_tx`
are kept as traces is log entry 4). -/
def Obligations.ErrorAnswersCarryNoData : Prop :=
  ∀ s s' : State, step s = .next s' →
    (∃ evs, s'.lineTx = s.lineTx ++ evs) ∧
    (s'.rsp = s.rsp ∨ ∃ r, s'.rsp = s.rsp ++ [r] ∧
      ((∃ bs, r = valueRsp bs) ∨ r = voidRsp ∨ r = noneRsp ∨ ∃ code info, code ≠ 0 ∧ r = errorRsp code info))

/-! ## CHK16 -/

/-- R131: the check of a byte sequence is its exact sum modulo 65535. -/
def Obligations.Chk16IsSumModulo : Prop :=
  (∀ d : Bytes, (chk16 d).toNat = byteSum d % 65535) ∧ chk16 [] = 0

/-- R137 and R138: the clear, and one update of an accumulator in range, which is the sum modulo 65535. -/
def Obligations.Chk16ClearAndUpdate : Prop :=
  decode [0x10] = .ok .chk16Clr ∧ (∀ b : Byte, decode [0x11, b] = .ok (.chk16Upd b)) ∧
  ∀ s : State, s.Idle →
    exec .chk16Clr s = .next (({ s with chk16Acc := 0 } : State).answered voidRsp) ∧
    ∀ b : Byte, s.Chk16InRange →
      exec (.chk16Upd b) s = .next (({ s with
        chk16Acc := BitVec.ofNat 16 ((s.chk16Acc.toNat + b.toNat) % 65535) } : State).answered
          (valueRsp (be16 (BitVec.ofNat 16 ((s.chk16Acc.toNat + b.toNat) % 65535)))))

/-- R139: `CHK16.GEN` leaves the sum modulo 65535 of a legal byte string in `CHK16.ACC` and returns it high byte first;
a string over `MAXBUF` is refused. -/
def Obligations.Chk16GenReturnsSum : Prop :=
  (∀ d : Bytes, d.length < 65536 →
    decode (0x12 :: be16 (BitVec.ofNat 16 d.length) ++ d) = .ok (.chk16Gen d)) ∧
  ∀ (s : State) (d : Bytes), s.Idle →
    (d.length ≤ s.params.maxbuf →
      exec (.chk16Gen d) s = .next (({ s with chk16Acc := BitVec.ofNat 16 (byteSum d % 65535) } : State).answered
        (valueRsp [hi8 (BitVec.ofNat 16 (byteSum d % 65535)), lo8 (BitVec.ofNat 16 (byteSum d % 65535))]))) ∧
    (s.params.maxbuf < d.length → exec (.chk16Gen d) s = .next (s.ended .illegalOperand 0))

/-- R140: `CHK16.VAL` on data and trailer returns the data when the trailer is the sum modulo 65535 of the data, else
raises `ChecksumMismatch` with the computed check; under 3 bytes it raises `FrameTooShort` and leaves the accumulator. -/
def Obligations.Chk16ValChecksFrame : Prop :=
  (∀ f : Bytes, f.length < 65536 →
    decode (0x13 :: be16 (BitVec.ofNat 16 f.length) ++ f) = .ok (.chk16Val f)) ∧
  ∀ s : State, s.Idle →
    (∀ f : Bytes, f.length < 3 →
      exec (.chk16Val f) s = .next (s.ended .frameTooShort (BitVec.ofNat 16 f.length))) ∧
    (∀ (d : Bytes) (hi lo : Byte), d ≠ [] →
      (byteSum d % 65535 = hi.toNat * 256 + lo.toNat →
        exec (.chk16Val (d ++ [hi, lo])) s = .next (({ s with
          chk16Acc := BitVec.ofNat 16 (byteSum d % 65535) } : State).answered (valueRsp d))) ∧
      (byteSum d % 65535 ≠ hi.toNat * 256 + lo.toNat →
        exec (.chk16Val (d ++ [hi, lo])) s = .next (({ s with
          chk16Acc := BitVec.ofNat 16 (byteSum d % 65535) } : State).ended .checksumMismatch
            (BitVec.ofNat 16 (byteSum d % 65535)))))

/-- A generated frame is accepted, and with any single bit flipped, in the data or in the trailer, it is rejected with
`ChecksumMismatch`; a trailer `FF FF` is always rejected (spec/40_chk16.md section 2). -/
def Obligations.Chk16DetectsSingleBitFlips : Prop :=
  ∀ (s : State) (d : Bytes), s.Idle → d ≠ [] →
    exec (.chk16Val (d ++ be16 (chk16 d))) s =
      .next (({ s with chk16Acc := chk16 d } : State).answered (valueRsp d)) ∧
    (∀ j k : Nat, j < d.length + 2 → k < 8 → ∃ acc : BitVec 16,
      exec (.chk16Val (flipBit (d ++ be16 (chk16 d)) j k)) s =
        .next (({ s with chk16Acc := acc } : State).ended .checksumMismatch acc)) ∧
    exec (.chk16Val (d ++ [0xFF, 0xFF])) s =
      .next (({ s with chk16Acc := chk16 d } : State).ended .checksumMismatch (chk16 d))

/-! ## CRC8 and CRC32 -/

/-- R154, R155 and R156: clear, update and generate of the CRC8 engine; an update with the register's own value clears
it. -/
def Obligations.Crc8ClearUpdateGenerate : Prop :=
  decode [0x20] = .ok .crc8Clr ∧ (∀ b : Byte, decode [0x21, b] = .ok (.crc8Upd b)) ∧
  (∀ m : Bytes, m.length < 65536 →
    decode (0x22 :: be16 (BitVec.ofNat 16 m.length) ++ m) = .ok (.crc8Gen m)) ∧
  (∀ c : Byte, roll8 c c = 0x00) ∧ crc8 [] = 0x00 ∧
  ∀ s : State, s.Idle →
    exec .crc8Clr s = .next (({ s with crc8Reg := 0x00 } : State).answered voidRsp) ∧
    (∀ b : Byte, exec (.crc8Upd b) s =
      .next (({ s with crc8Reg := roll8 s.crc8Reg b } : State).answered (valueRsp [roll8 s.crc8Reg b]))) ∧
    (∀ m : Bytes,
      (m.length ≤ s.params.maxbuf → exec (.crc8Gen m) s =
        .next (({ s with crc8Reg := crc8 m } : State).answered (valueRsp [crc8 m]))) ∧
      (s.params.maxbuf < m.length → exec (.crc8Gen m) s = .next (s.ended .illegalOperand 0)))

/-- The byte step is linear over XOR; leading zeros change nothing; the CRC over a message and its CRC is 0; after a
header and its CRC the engine is back at 0 (spec/41_crc8_crc32.md section 1). -/
def Obligations.Crc8LinearAndSelfChecking : Prop :=
  (∀ c c' b b' : Byte, roll8 (c ^^^ c') (b ^^^ b') = roll8 c b ^^^ roll8 c' b') ∧
  (∀ m : Bytes, crc8 (0x00 :: m) = crc8 m) ∧
  (∀ m : Bytes, crc8 (m ++ [crc8 m]) = 0x00) ∧
  (∀ m rest : Bytes, crc8 (m ++ crc8 m :: rest) = crc8 rest)

/-- R157: `CRC8.VAL` returns the verdict 1 exactly when the CRC over the whole input is 0, which is when its last byte
is the CRC of the others, and leaves the CRC of the others in the register; an empty input raises `FrameTooShort`. -/
def Obligations.Crc8ValVerdict : Prop :=
  (∀ f : Bytes, f.length < 65536 →
    decode (0x23 :: be16 (BitVec.ofNat 16 f.length) ++ f) = .ok (.crc8Val f)) ∧
  ∀ s : State, s.Idle →
    exec (.crc8Val []) s = .next (s.ended .frameTooShort 0) ∧
    ∀ (m : Bytes) (c : Byte),
      (crc8 (m ++ [c]) = 0x00 ↔ crc8 m = c) ∧
      exec (.crc8Val (m ++ [c])) s = .next (({ s with crc8Reg := crc8 m } : State).answered
        (valueRsp [if crc8 (m ++ [c]) = 0x00 then 1 else 0]))

/-- R163, R164 and R165: clear, update and generate of the CRC32 engine; the register holds the value before the final
XOR, the result goes out most significant byte first. -/
def Obligations.Crc32ClearUpdateGenerate : Prop :=
  decode [0x30] = .ok .crc32Clr ∧ (∀ b : Byte, decode [0x31, b] = .ok (.crc32Upd b)) ∧
  (∀ m : Bytes, m.length < 65536 →
    decode (0x32 :: be16 (BitVec.ofNat 16 m.length) ++ m) = .ok (.crc32Gen m)) ∧
  ∀ s : State, s.Idle →
    exec .crc32Clr s = .next (({ s with crc32Reg := 0xFFFFFFFF } : State).answered voidRsp) ∧
    (∀ b : Byte, exec (.crc32Upd b) s = .next (({ s with crc32Reg := upd32 s.crc32Reg b } : State).answered
      (valueRsp (be32 (upd32 s.crc32Reg b ^^^ 0xFFFFFFFF))))) ∧
    (∀ m : Bytes,
      (m.length ≤ s.params.maxbuf → exec (.crc32Gen m) s =
        .next (({ s with crc32Reg := crc32 m ^^^ 0xFFFFFFFF } : State).answered (valueRsp (be32 (crc32 m))))) ∧
      (s.params.maxbuf < m.length → exec (.crc32Gen m) s = .next (s.ended .illegalOperand 0)))

/-- R166: `CRC32.VAL` on a message and four bytes, most significant first, returns whether they are the CRC32 of the
message; under 4 bytes it raises `FrameTooShort` and leaves the register. -/
def Obligations.Crc32ValVerdict : Prop :=
  (∀ f : Bytes, f.length < 65536 →
    decode (0x33 :: be16 (BitVec.ofNat 16 f.length) ++ f) = .ok (.crc32Val f)) ∧
  ∀ s : State, s.Idle →
    (∀ f : Bytes, f.length < 4 →
      exec (.crc32Val f) s = .next (s.ended .frameTooShort (BitVec.ofNat 16 f.length))) ∧
    (∀ (m : Bytes) (c : BitVec 32), exec (.crc32Val (m ++ be32 c)) s =
      .next (({ s with crc32Reg := crc32 m ^^^ 0xFFFFFFFF } : State).answered
        (valueRsp [if crc32 m = c then 1 else 0])))

/-- Streaming bytes through `CLR` and `UPD` leaves in each engine what `GEN` of the same bytes leaves, and the last
answer is that of `GEN` (spec/40_chk16.md section 1, spec/41_crc8_crc32.md sections 1 and 2). -/
def Obligations.StreamedUpdatesEqualGenerate : Prop :=
  ∀ (s : State) (m : Bytes), s.Idle → m ≠ [] →
    (∃ t, execSeq (.chk16Clr :: m.map .chk16Upd) s = .next t ∧ t.chk16Acc = chk16 m ∧
      t.rsp.getLast? = some (valueRsp (be16 (chk16 m)))) ∧
    (∃ t, execSeq (.crc8Clr :: m.map .crc8Upd) s = .next t ∧ t.crc8Reg = crc8 m ∧
      t.rsp.getLast? = some (valueRsp [crc8 m])) ∧
    (∃ t, execSeq (.crc32Clr :: m.map .crc32Upd) s = .next t ∧ t.crc32Reg = crc32 m ^^^ 0xFFFFFFFF ∧
      t.rsp.getLast? = some (valueRsp (be32 (crc32 m))))

/-- Check values of the two engines: those R153 (d) and R162 (b) give, and the header CRC and the request CRC of the
spec's examples (R156, R165). -/
def Obligations.CrcCheckValues : Prop :=
  crc8 [0x01] = 0x86 ∧ crc8 [0x80] = 0x97 ∧ crc8 [0xFF] = 0x7D ∧ crc8 [0x0A, 0x02, 0x0C] = 0xC4 ∧
  crc8 [0x31, 0x32, 0x33, 0x34, 0x35, 0x36, 0x37, 0x38, 0x39] = 0xC2 ∧
  crc32 [] = 0x00000000 ∧ crc32 [0x00] = 0xD202EF8D ∧ crc32 [0xFF] = 0xFF000000 ∧ crc32 [0x61] = 0xE8B7BE43 ∧
  crc32 [0x31, 0x32, 0x33, 0x34, 0x35, 0x36, 0x37, 0x38, 0x39] = 0xCBF43926 ∧
  crc32 [0x00, 0x02, 0x00, 0x02, 0x00, 0x00] = 0xC88626AD

/-! ## ESC and the deframer -/

/-- R185: decoding undoes encoding; an encoded string is made of unspecial bytes and of pairs `ESC x` with `x` one of
`2E`, `51`, `00`, so it holds no delimiter and `ESC` only in front of a pair; the converse holds exactly for the images
of encoding, and fails on `BB 41`. -/
def Obligations.EscapeRoundTrip : Prop :=
  (∀ f : Bytes, unescape (escape f) = .ok f) ∧
  (∀ f : Bytes, (0x95 : Byte) ∉ escape f ∧ (0xEA : Byte) ∉ escape f ∧
    ∃ blocks : List Bytes, escape f = blocks.flatten ∧ ∀ blk ∈ blocks,
      (∃ b : Byte, blk = [b] ∧ b ≠ 0x95 ∧ b ≠ 0xEA ∧ b ≠ 0xBB) ∨
        blk = [0xBB, 0x2E] ∨ blk = [0xBB, 0x51] ∨ blk = [0xBB, 0x00]) ∧
  (∀ f : Bytes, f.length ≤ (escape f).length ∧ (escape f).length ≤ 2 * f.length) ∧
  (∀ e : Bytes, (∃ g, unescape e = .ok g ∧ escape g = e) ↔ ∃ f, e = escape f) ∧
  unescape [0xBB, 0x41] = .ok [0xFA] ∧ escape [0xFA] ≠ [0xBB, 0x41]

/-- `ESC.ENC`, `ESC.DEC` and `SFSP.WRAP` answer with the codec's result, or with `MalformedFrame` and the index where
decoding stopped; no other register changes (spec/42_pjon_escape.md section 1). -/
def Obligations.EscapeOperations : Prop :=
  ∀ (s : State) (f : Bytes), s.Idle →
    (f.length ≤ s.params.maxbuf →
      exec (.escEnc f) s = .next (s.answered (valueRsp (escape f))) ∧
      exec (.sfspWrap f) s = .next (s.answered (valueRsp (0x95 :: escape f ++ [0xEA])))) ∧
    (∀ g : Bytes, unescape f = .ok g → exec (.escDec f) s = .next (s.answered (valueRsp g))) ∧
    (∀ i : Nat, unescape f = .error i →
      exec (.escDec f) s = .next (s.ended .malformedFrame (BitVec.ofNat 16 i)))

/-- A bare delimiter, a delimiter behind `ESC` and a trailing `ESC` stop decoding at their index, whatever escaped
string stands in front of them and whatever follows (spec/42_pjon_escape.md section 1). -/
def Obligations.UnescapeStopsAtFirstMalformation : Prop :=
  ∀ (g rest : Bytes) (x : Byte), x = 0x95 ∨ x = 0xEA →
    unescape (escape g ++ x :: rest) = .error (escape g).length ∧
    unescape (escape g ++ 0xBB :: x :: rest) = .error ((escape g).length + 1) ∧
    unescape (escape g ++ [0xBB]) = .error (escape g).length

/-- The rows of the deframer's table and its overflow (spec/42_pjon_escape.md section 2). What happens to `RXTAG` and to
the model's validity bit is the model's choice, log entries 8 and 10. -/
def Obligations.DeframerTable : Prop :=
  ∀ (s : State) (b : Byte), s.Idle →
    exec (.sfspRxb 0x95) s = .next (({ s with
      rxbuf := [], rxtag := [], rxbufValid := false, escState := .body } : State).answered voidRsp) ∧
    (s.escState = .hunt → b ≠ 0x95 → exec (.sfspRxb b) s = .next (s.answered voidRsp)) ∧
    (s.escState = .body →
      exec (.sfspRxb 0xEA) s = .next (({ s with escState := .hunt } : State).answered (valueRsp s.rxbuf)) ∧
      exec (.sfspRxb 0xBB) s = .next (({ s with escState := .escaped } : State).answered voidRsp)) ∧
    (s.escState = .escaped →
      exec (.sfspRxb 0xEA) s = .next (({ s with
        rxbuf := [], rxtag := [], rxbufValid := false, escState := .hunt } : State).ended .malformedFrame
          (BitVec.ofNat 16 s.rxbuf.length))) ∧
    (∀ d : Byte,
      (s.escState = .body ∧ b ≠ 0x95 ∧ b ≠ 0xEA ∧ b ≠ 0xBB ∧ d = b) ∨
        (s.escState = .escaped ∧ b ≠ 0x95 ∧ b ≠ 0xEA ∧ d = b ^^^ 0xBB) →
      (s.rxbuf.length < s.params.maxbuf → exec (.sfspRxb b) s = .next (({ s with
        rxbuf := s.rxbuf ++ [d], rxtag := s.rxtag ++ [false], rxbufValid := false,
        escState := .body } : State).answered voidRsp)) ∧
      (s.params.maxbuf ≤ s.rxbuf.length → exec (.sfspRxb b) s = .next (({ s with
        rxbuf := [], rxtag := [], rxbufValid := false, escState := .hunt } : State).ended .malformedFrame
          (BitVec.ofNat 16 s.params.maxbuf))))

/-- R189: the bytes of a wrapped frame, fed to a deframer in any state, give exactly one result, the frame, at the last
byte, and leave the deframer in `HUNT` with the frame in `RXBUF`. -/
def Obligations.DeframerRecoversWrappedFrame : Prop :=
  ∀ (s : State) (f : Bytes), s.Idle → f.length ≤ s.params.maxbuf →
    ∃ t : State, execSeq ((sfspWrap f).map .sfspRxb) s = .next t ∧
      t.rsp = s.rsp ++ List.replicate ((sfspWrap f).length - 1) voidRsp ++ [valueRsp f] ∧
      t.escState = .hunt ∧ t.rxbuf = f

/-! ## PJON frames -/

/-- R202 and R203: the frame `PJON.BUILD` makes of a payload, with CRC8 up to 9 bytes and CRC32 from 10 to 246, where it
is left, and the check registers; a longer payload is refused. -/
def Obligations.PjonBuildLayout : Prop :=
  (∀ p : Bytes, p.length < 65536 →
    decode (0x50 :: be16 (BitVec.ofNat 16 p.length) ++ p) = .ok (.pjonBuild p)) ∧
  ∀ (s : State) (p : Bytes), s.Idle →
    (p.length ≤ 9 → ∀ head body : Bytes,
      head = [s.cfg.targetId, 0x02, BitVec.ofNat 8 (p.length + 6)] →
      body = head ++ [crc8 head, s.cfg.deviceId] ++ p →
      exec (.pjonBuild p) s = .next (({ s with
        txbuf := body ++ [crc8 body], crc8Reg := crc8 body } : State).answered (valueRsp (body ++ [crc8 body])))) ∧
    (10 ≤ p.length → p.length ≤ 246 → ∀ head body : Bytes,
      head = [s.cfg.targetId, 0x22, BitVec.ofNat 8 (p.length + 9)] →
      body = head ++ [crc8 head, s.cfg.deviceId] ++ p →
      exec (.pjonBuild p) s = .next (({ s with
        txbuf := body ++ be32 (crc32 body), crc8Reg := crc8 head,
        crc32Reg := crc32 body ^^^ 0xFFFFFFFF } : State).answered (valueRsp (body ++ be32 (crc32 body))))) ∧
    (247 ≤ p.length → exec (.pjonBuild p) s = .next (s.ended .illegalOperand 0))

/-- R205: `PJON.SEND` does to the registers what `PJON.BUILD` of the same payload does, emits `START`, the escaped frame
and `END` byte by byte, and answers without a value; what `PJON.BUILD` refuses it refuses. -/
def Obligations.PjonSendEmitsWrappedFrame : Prop :=
  (∀ p : Bytes, p.length < 65536 →
    decode (0x52 :: be16 (BitVec.ofNat 16 p.length) ++ p) = .ok (.pjonSend p)) ∧
  ∀ (s : State) (p : Bytes), s.Idle →
    (p.length ≤ 246 → ∃ t : State, exec (.pjonBuild p) s = .next t ∧
      exec (.pjonSend p) s = .next { t with
        rsp := s.rsp ++ [voidRsp]
        lineTx := s.lineTx ++ ((0x95 :: escape t.txbuf ++ [0xEA]).map LineEvent.byteOut) }) ∧
    (247 ≤ p.length → exec (.pjonSend p) s = .next (s.ended .illegalOperand 0))

/-- A frame built by a peer for this block, or for everyone, parses to its payload, unless that is the one non-zero byte
which is a remote error; `PJF.SENDER` and `PJF.HDR` take the frame's values (spec/43_pjon_frame.md sections 1 and 2; the
validity bit is log entry 9). -/
def Obligations.PjonParseRecoversBuiltFrame : Prop :=
  ∀ (s : State) (target sender : Byte) (p : Bytes), s.Idle → p.length ≤ 246 →
    target = s.cfg.deviceId ∨ target = 0x00 →
    (∀ b : Byte, p = [b] → b = 0) →
    ∃ (hdr c8 : Byte) (c32 : BitVec 32), hdr = (if p.length ≤ 9 then 0x02 else 0x22) ∧
      exec (.pjonParse (pjonFrame target sender p)) s = .next (({ s with
        pjfHdr := hdr, pjfSender := sender, pjfSenderValid := true,
        crc8Reg := c8, crc32Reg := c32 } : State).answered (valueRsp p))

/-- `PJON.PARSE` reports the first check that fails, in the order of R207, with its info, and the payload when none
fails (spec/43_pjon_frame.md section 2; `pjonVerdict` writes the checks out). Only the error registers and the answer
are stated; log entry 9 is about the rest. -/
def Obligations.PjonParseVerdict : Prop :=
  ∀ (s : State) (f : Bytes), s.Idle → ∃ t : State, exec (.pjonParse f) s = .next t ∧
    (match pjonVerdict s.cfg.deviceId f with
     | some (kind, info) =>
       t.errKind = kind ∧ t.errInfo = info ∧ t.rsp = s.rsp ++ [errorRsp (kind.code.zeroExtend 8) info]
     | none => t.errKind = .none ∧ t.errInfo = 0 ∧ t.rsp = s.rsp ++ [valueRsp (pjonPayload f)])

/-- No frame is returned as data unless all eight checks pass (spec/60_exceptions.md section 1), and parsing touches no
register but `PJF.HDR`, `PJF.SENDER`, the check registers, the error registers and the model's validity bit (log
entry 9). -/
def Obligations.PjonParseReturnsOnlyCheckedFrames : Prop :=
  ∀ (s : State) (f : Bytes), s.Idle → ∃ t : State, exec (.pjonParse f) s = .next t ∧
    (t.errKind = .none → pjonVerdict s.cfg.deviceId f = none ∧ pjonFrameOk s.cfg.deviceId f = true ∧
      t.rsp = s.rsp ++ [valueRsp (pjonPayload f)] ∧ t.pjfSender = f.getD 4 0 ∧ t.pjfHdr = f.getD 1 0) ∧
    t = { s with
      pjfHdr := t.pjfHdr, pjfSender := t.pjfSender, pjfSenderValid := t.pjfSenderValid
      crc8Reg := t.crc8Reg, crc32Reg := t.crc32Reg
      errKind := t.errKind, errInfo := t.errInfo, rsp := t.rsp }

/-- `PJON.RECV` with nothing waiting in `RXQ` starts to listen and answers nothing yet; its expected length is ignored.
While a stand-alone receive listens, every byte reloads `PJF.TIMER` and goes through the deframer; a malformed frame or
an overflow ends the receive with `MalformedFrame`; a complete frame ends it as `PJON.PARSE` of that frame would, but
for `NotAddressedToUs`, which becomes `None`; a tick counts the timer down, and the last one ends the receive with
`None` (spec/43_pjon_frame.md section 3, spec/42_pjon_escape.md section 2). The implied register `pjfTimeout`, `RXTAG`
and the validity bit are log entries 14, 8 and 10. -/
def Obligations.PjonRecvStartsListening : Prop :=
  (∀ (s : State) (t : BitVec 32) (e : Option (BitVec 16)), s.Idle → t ≠ 0 → s.rxq = [] →
    exec (.pjonRecv t e) s = .next { s with
      pjfRxstate := .listen, pjfTimer := t, pjfTimeout := t, escState := .hunt
      rxbuf := [], rxtag := [], rxbufValid := false }) ∧
  (∀ (s q : State) (b : Byte) (rest : List Event),
    (s.xchState = .idle ∨ s.xchState = .done ∨ s.xchState = .failed) → s.t9State = .off → s.pjfRxstate = .listen →
    s.events = .rxByte b :: rest → q = { s with events := rest, pjfTimer := s.pjfTimeout } →
    (b = 0x95 → step s = .next { q with rxbuf := [], rxtag := [], rxbufValid := false, escState := .body }) ∧
    (s.escState = .hunt → b ≠ 0x95 → step s = .next q) ∧
    (s.escState = .body → b = 0xBB → step s = .next { q with escState := .escaped }) ∧
    (s.escState = .escaped → b = 0xEA → step s = .next (({ q with
      pjfRxstate := .off, rxbuf := [], rxtag := [], rxbufValid := false, escState := .hunt } : State).ended
        .malformedFrame (BitVec.ofNat 16 s.rxbuf.length))) ∧
    (∀ d : Byte,
      (s.escState = .body ∧ b ≠ 0x95 ∧ b ≠ 0xEA ∧ b ≠ 0xBB ∧ d = b) ∨
        (s.escState = .escaped ∧ b ≠ 0x95 ∧ b ≠ 0xEA ∧ d = b ^^^ 0xBB) →
      (s.rxbuf.length < s.params.maxbuf → step s = .next { q with
        rxbuf := s.rxbuf ++ [d], rxtag := s.rxtag ++ [false], rxbufValid := false, escState := .body }) ∧
      (s.params.maxbuf ≤ s.rxbuf.length → step s = .next (({ q with
        pjfRxstate := .off, rxbuf := [], rxtag := [], rxbufValid := false, escState := .hunt } : State).ended
          .malformedFrame (BitVec.ofNat 16 s.params.maxbuf)))) ∧
    (s.escState = .body → b = 0xEA →
      ∃ v : State, exec (.pjonParse s.rxbuf) { q with pjfRxstate := .off, escState := .hunt } = .next v ∧
        (match pjonVerdict s.cfg.deviceId s.rxbuf with
         | none => step s = .next { v with rxbufValid := true } ∧ v.rsp = s.rsp ++ [valueRsp (pjonPayload s.rxbuf)]
         | some (.notAddressedToUs, _) =>
           step s = .next { v with errKind := .none, errInfo := 0, rsp := s.rsp ++ [noneRsp] }
         | some (k, info) => step s = .next v ∧ v.rsp = s.rsp ++ [errorRsp (k.code.zeroExtend 8) info]))) ∧
  (∀ (s : State) (rest : List Event),
    (s.xchState = .idle ∨ s.xchState = .done ∨ s.xchState = .failed) → s.t9State = .off → s.pjfRxstate = .listen →
    s.events = .tick :: rest →
    (s.pjfTimer ≠ 1 → step s = .next { s with events := rest, pjfTimer := s.pjfTimer - 1 }) ∧
    (s.pjfTimer = 1 → step s = .next (({ s with
      events := rest, pjfTimer := 0, pjfRxstate := .off, escState := .hunt
      rxbuf := [], rxtag := [], rxbufValid := false } : State).answered noneRsp)))

/-- A whole PJON receive, its bytes arriving after `PJON.RECV` with fewer than `t` ticks in front of each, whatever the
deframer did before (spec/43_pjon_frame.md section 3). Nothing is answered before the last event. A wrapped frame ends
the receive at its last byte as `PJON.PARSE` would, `NotAddressedToUs` becoming `None`; a frame that a peer built for a
payload delivers the payload; `ESC END` and an overflow end it with `MalformedFrame`; a partial frame followed by `t`
ticks ends it with `None`, because every byte restarts the timer. The implied register `pjfTimeout`, `RXTAG` and the
validity bit are log entries 14, 8 and 10. -/
def Obligations.PjonRecvDeliversPayload : Prop :=
  ∀ (s : State) (t : BitVec 32) (e : Option (BitVec 16)) (l : List (Nat × Byte)) (tail : List Event)
    (q : Bytes → Bool → State),
    s.Idle → t ≠ 0 → e ≠ some 0xFFFF → s.rxq = [] → (∀ x ∈ l, x.1 < t.toNat) →
    s.events = .cmd (encode (.pjonRecv t e)) :: (pacedBytes l ++ tail) →
    (∀ f valid, q f valid = { s with
      events := [], rxbuf := f, rxtag := List.replicate f.length false, rxbufValid := valid
      escState := .hunt, pjfTimer := t, pjfTimeout := t }) →
    (∀ f : Bytes, f.length ≤ s.params.maxbuf → l.map Prod.snd = sfspWrap f → tail = [] →
      ∃ v : State, exec (.pjonParse f) (q f false) = .next v ∧
        (match pjonVerdict s.cfg.deviceId f with
         | none => s.EndsIn { v with rxbufValid := true } ∧ v.rsp = s.rsp ++ [valueRsp (pjonPayload f)]
         | some (.notAddressedToUs, _) =>
           s.EndsIn { v with errKind := .none, errInfo := 0, rsp := s.rsp ++ [noneRsp] }
         | some (k, info) => s.EndsIn v ∧ v.rsp = s.rsp ++ [errorRsp (k.code.zeroExtend 8) info])) ∧
    (∀ (target sender : Byte) (p : Bytes), 255 ≤ s.params.maxbuf → p.length ≤ 246 →
      target = s.cfg.deviceId ∨ target = 0x00 → (∀ b : Byte, p = [b] → b = 0) →
      l.map Prod.snd = sfspWrap (pjonFrame target sender p) → tail = [] →
      ∃ u : State, s.EndsIn u ∧
        u.rsp = s.rsp ++ [valueRsp p] ∧ u.errKind = .none ∧ u.pjfRxstate = .off ∧ u.pjfTimer = t ∧
        u.pjfSender = sender ∧ u.readPjfSender = some sender ∧ u.readRxbuf = some (pjonFrame target sender p) ∧
        u.rxbuf = pjonFrame target sender p ∧ u.escState = .hunt ∧
        u.rxq = [] ∧ u.events = [] ∧ u.lineTx = s.lineTx ∧ u.txbuf = s.txbuf ∧
        u.xchState = s.xchState ∧ u.xchResp = s.xchResp) ∧
    (∀ g : Bytes, g.length ≤ s.params.maxbuf → l.map Prod.snd = 0x95 :: (escape g ++ [0xBB, 0xEA]) → tail = [] →
      s.EndsIn ((q [] false).ended .malformedFrame (BitVec.ofNat 16 g.length))) ∧
    (∀ g : Bytes, g.length = s.params.maxbuf + 1 → l.map Prod.snd = 0x95 :: escape g → tail = [] →
      s.EndsIn ((q [] false).ended .malformedFrame (BitVec.ofNat 16 s.params.maxbuf))) ∧
    (∀ g : Bytes, g.length ≤ s.params.maxbuf → l.map Prod.snd = 0x95 :: escape g →
      tail = List.replicate t.toNat .tick →
      s.EndsIn (({ q [] false with pjfTimer := 0 } : State).answered noneRsp))

/-- On a silent line a receive answers `None` at the `t`-th tick after its start and nothing before it, on either
transport (spec/45_transport9.md section 2, spec/43_pjon_frame.md section 3). -/
def Obligations.SilentReceiveTimesOut : Prop :=
  ∀ (s : State) (t : BitVec 32) (e : Option (BitVec 16)) (i : Instr),
    s.Idle → t ≠ 0 → e ≠ some 0xFFFF → s.rxq = [] → i = .t9Recv t e ∨ i = .pjonRecv t e →
    s.events = .cmd (encode i) :: List.replicate t.toNat .tick →
    (∀ k : Nat, k < t.toNat → ∃ u : State, runSteps (1 + k) s = .next u ∧ u.rsp = s.rsp ∧ ¬ u.Idle) ∧
    (∃ u : State, runSteps (1 + t.toNat) s = .next u ∧ u.rsp = s.rsp ++ [noneRsp] ∧ u.Idle ∧
      u.errKind = .none ∧ u.rxbuf = [] ∧ u.lineTx = s.lineTx ∧ u.xchState = s.xchState)

/-- Stale input: what waits in `RXQ` is handled, oldest first, as if it arrived right after the receive started with an
empty queue; what a receive that has ended does not take waits on (spec/45_transport9.md section 2,
spec/43_pjon_frame.md section 3). Two points are the model's: a `PJON.RECV` that stale bytes end answers inside its own
`Cmd` event, as that rule's pseudocode has it over R395 (DEDUCED, log entry 12), and where both kinds wait in `RXQ` a
receive takes its own kind and leaves the other, each in its own order (DESIGN CHOICE, log entry 7). -/
def Obligations.ReceivesTakeStaleInputFirst : Prop :=
  ∀ (s : State) (t : BitVec 32) (e : Option (BitVec 16)), s.Idle → t ≠ 0 →
    (∀ cs : List (BitVec 11), s.rxq = cs.map .char →
      ∃ s₀ : State, exec (.t9Recv t e) { s with rxq := [] } = .next s₀ ∧
        exec (.t9Recv t e) s = .next (cs.foldl (fun u c => onRxChar c u) s₀)) ∧
    (∀ bs : Bytes, s.rxq = bs.map .byte →
      ∃ s₀ : State, exec (.pjonRecv t e) { s with rxq := [] } = .next s₀ ∧
        exec (.pjonRecv t e) s = .next (bs.foldl (fun u b => onRxByte b u) s₀)) ∧
    (∀ (cs : List (BitVec 11)) (bs : Bytes),
      cs = s.rxq.filterMap (fun | .char c => some c | .byte _ => none) →
      bs = s.rxq.filterMap (fun | .char _ => none | .byte b => some b) →
      (∃ s₀ : State, exec (.t9Recv t e) { s with rxq := bs.map .byte } = .next s₀ ∧
        exec (.t9Recv t e) s = .next (cs.foldl (fun u c => onRxChar c u) s₀)) ∧
      (∃ (s₀ u : State) (q : List RxItem) (left : Bytes),
        exec (.pjonRecv t e) { s with rxq := [] } = .next s₀ ∧
        u = bs.foldl (fun u b => onRxByte b u) s₀ ∧ u.rxq = left.map .byte ∧
        exec (.pjonRecv t e) s = .next { u with rxq := q } ∧
        q.filterMap (fun | .char c => some c | .byte _ => none) = cs ∧
        q.filterMap (fun | .char _ => none | .byte b => some b) = left))

/-- With no receive running a tick does nothing, and a character or a byte waits in `RXQ`; no event at all changes
nothing (spec/60_exceptions.md section 3; the last clause is the model's, log entry 1). -/
def Obligations.IdleBlockQueuesInput : Prop :=
  ∀ (s : State) (rest : List Event), s.Idle →
    (s.events = .tick :: rest → step s = .next { s with events := rest }) ∧
    (∀ c, s.events = .rxChar c :: rest → step s = .next { s with events := rest, rxq := s.rxq ++ [.char c] }) ∧
    (∀ b, s.events = .rxByte b :: rest → step s = .next { s with events := rest, rxq := s.rxq ++ [.byte b] }) ∧
    (s.events = [] → step s = .next s)

/-! ## S9 -/

/-- R245: under the mode selected for a symbol, in either realisation, the hardware's parity bit is the address bit, so
the character on the line is the same in both. -/
def Obligations.SelectedModeSendsAddressBit : Prop :=
  (∀ (spacemark a : Bool) (d : Byte), parityBit (selectMode spacemark a d) d = a) ∧
  (∀ (spacemark a : Bool) (d : Byte), lineChar (selectMode spacemark a d) d = symbolChar a d)

/-- `S9.PSEL`, `S9.BUILD` and `S9.TX`: the mode code, the character, and the mode write, character and flush with
`S9.PMODE` left at the mode; the first two change no register but the error registers (spec/44_serial9.md sections 1
and 2). -/
def Obligations.SerialSymbolOperations : Prop :=
  ∀ (s : State) (a : Bool) (d : Byte), s.Idle →
    (s.cfg.spacemark = true →
      exec (.s9Psel a d) s = .next (s.answered (valueRsp [if a then 2 else 3]))) ∧
    (s.cfg.spacemark = false →
      exec (.s9Psel a d) s = .next (s.answered (valueRsp [if par8 d = a then 0 else 1]))) ∧
    exec (.s9Build a d) s = .next (s.answered (valueRsp (be16 ((symbolChar a d).zeroExtend 16)))) ∧
    exec (.s9Tx a d) s = .next (({ s with
      s9Pmode := .known (selectMode s.cfg.spacemark a d)
      lineTx := s.lineTx ++ [.pmode (selectMode s.cfg.spacemark a d), .char (symbolChar a d), .flush] } :
        State).answered voidRsp)

/-- `S9.PARSE` returns the symbol of every character that `S9.BUILD` makes, and every other character, which has a wrong
start or stop bit, raises `MalformedFrame` and sets the sticky `S9.FERR` (spec/44_serial9.md section 3). -/
def Obligations.SerialParseInvertsBuild : Prop :=
  ∀ s : State, s.Idle →
    (∀ (a : Bool) (d : Byte),
      exec (.s9Parse (symbolChar a d)) s = .next (s.answered (valueRsp [if a then 1 else 0, d]))) ∧
    (∀ c : BitVec 11, (∀ a d, c ≠ symbolChar a d) →
      exec (.s9Parse c) s = .next (({ s with s9Ferr := true } : State).ended .malformedFrame (c.zeroExtend 16)))

/-! ## T9 -/

/-- R271 and R272: `T9.BUILD` leaves the data with its two check bytes in `TXBUF` and returns it; `T9.SEND` puts it on
the line symbol by symbol, the address bit on the first only; data that is empty or too long is refused. -/
def Obligations.NineBitBuildAndSend : Prop :=
  (∀ d : Bytes, d.length < 65536 →
    decode (0x70 :: be16 (BitVec.ofNat 16 d.length) ++ d) = .ok (.t9Build d) ∧
    decode (0x72 :: be16 (BitVec.ofNat 16 d.length) ++ d) = .ok (.t9Send d)) ∧
  ∀ (s : State) (d : Bytes), s.Idle →
    (d ≠ [] → d.length + 2 ≤ s.params.maxbuf →
      exec (.t9Build d) s = .next (({ s with
        txbuf := d ++ [hi8 (chk16 d), lo8 (chk16 d)], chk16Acc := chk16 d } : State).answered
          (valueRsp (d ++ [hi8 (chk16 d), lo8 (chk16 d)]))) ∧
      exec (.t9Send d) s = .next (({ s with
        txbuf := d ++ [hi8 (chk16 d), lo8 (chk16 d)], chk16Acc := chk16 d
        s9Pmode := .known (selectMode s.cfg.spacemark false (lo8 (chk16 d)))
        lineTx := s.lineTx ++ frameTrace s.cfg (d ++ [hi8 (chk16 d), lo8 (chk16 d)]) } : State).answered voidRsp)) ∧
    (d = [] ∨ s.params.maxbuf < d.length + 2 →
      exec (.t9Build d) s = .next (s.ended .illegalOperand 0) ∧
      exec (.t9Send d) s = .next (s.ended .illegalOperand 0))

/-- R284: `T9.VAL` trims to the expected length and two check bytes, then validates as `CHK16.VAL` does. -/
def Obligations.NineBitValidateTrims : Prop :=
  (∀ (e : Option (BitVec 16)) (f : Bytes), e ≠ some 0xFFFF → f.length < 65536 →
    decode (0x71 :: (be16 (e.getD 0xFFFF) ++ be16 (BitVec.ofNat 16 f.length) ++ f)) = .ok (.t9Val e f)) ∧
  ∀ (s : State) (e : Option (BitVec 16)) (f g : Bytes), s.Idle →
    g = (match e with
      | some v => if v.toNat + 2 < f.length then f.take (v.toNat + 2) else f
      | none => f) →
    (g.length < 3 → exec (.t9Val e f) s = .next (s.ended .frameTooShort (BitVec.ofNat 16 g.length))) ∧
    (∀ (d : Bytes) (hi lo : Byte), d ≠ [] → g = d ++ [hi, lo] →
      (chk16 d = u16be hi lo → exec (.t9Val e f) s =
        .next (({ s with chk16Acc := chk16 d } : State).answered (valueRsp d))) ∧
      (chk16 d ≠ u16be hi lo → exec (.t9Val e f) s =
        .next (({ s with chk16Acc := chk16 d } : State).ended .checksumMismatch (chk16 d))))

/-- The start of `T9.RECV` with nothing waiting, and what a character and a tick do while it runs: a character is stored
with its 9th bit, or dropped with `T9.OVF` when `RXBUF` is full, and reloads the idle timer; a malformed one only sets
`S9.FERR`; a tick counts the timer down, and the last one of a stand-alone receive that has no byte yet ends it with
`None` (spec/45_transport9.md section 2; the validity bit is log entry 10). -/
def Obligations.NineBitReceiveCollects : Prop :=
  (∀ (s : State) (t : BitVec 32) (e : Option (BitVec 16)), s.Idle → t ≠ 0 → s.rxq = [] →
    exec (.t9Recv t e) s = .next { s with
      t9State := .waitFirst, t9Timer := t, t9Explen := e, t9Ovf := false
      rxbuf := [], rxtag := [], rxbufValid := false }) ∧
  (∀ (s : State) (rest : List Event) (a : Bool) (d : Byte), s.t9State ≠ .off →
    s.events = .rxChar (symbolChar a d) :: rest →
    (s.rxbuf.length < s.params.maxbuf → step s = .next { s with
      events := rest, rxbuf := s.rxbuf ++ [d], rxtag := s.rxtag ++ [a], rxbufValid := false
      t9State := .collect, t9Timer := s.cfg.eopIdle }) ∧
    (s.params.maxbuf ≤ s.rxbuf.length → step s = .next { s with
      events := rest, t9Ovf := true, t9State := .collect, t9Timer := s.cfg.eopIdle })) ∧
  (∀ (s : State) (rest : List Event) (c : BitVec 11), s.t9State ≠ .off → (∀ a d, c ≠ symbolChar a d) →
    s.events = .rxChar c :: rest → step s = .next { s with events := rest, s9Ferr := true }) ∧
  (∀ (s : State) (rest : List Event), s.t9State ≠ .off → s.events = .tick :: rest →
    (s.t9Timer ≠ 1 → step s = .next { s with events := rest, t9Timer := s.t9Timer - 1 }) ∧
    (s.t9Timer = 1 → s.t9State = .waitFirst →
      (s.xchState = .idle ∨ s.xchState = .done ∨ s.xchState = .failed) →
      step s = .next (({ s with events := rest, t9Timer := 0, t9State := .off } : State).answered noneRsp)))

/-- A whole 9-bit receive: characters with any bytes and address bits, the first after fewer than `t` ticks, each other
after fewer ticks than the idle window, then silence for the idle window. Nothing is answered before the last tick.
`RXBUF` and `RXTAG` keep the first `MAXBUF` of them, cut to `e + 2` where an expected length `e` was given; a capture
then under 3 bytes ends the receive with `FrameTooShort`, one whose last two bytes are not its check with
`ChecksumMismatch`, any other delivers its data. In particular the characters a peer sends for some data deliver that
data (spec/45_transport9.md section 2; the validity bit is log entry 10). -/
def Obligations.NineBitReceiveDeliversData : Prop :=
  (∀ (s : State) (t : BitVec 32) (e : Option (BitVec 16)) (l : List (Nat × Bool × Byte)) (captured g : Bytes)
    (q : BitVec 16 → Bool → State),
    s.Idle → t ≠ 0 → e ≠ some 0xFFFF → s.rxq = [] → s.cfg.eopIdle ≠ 0 → l ≠ [] →
    (∀ x, l.head? = some x → x.1 < t.toNat) → (∀ x ∈ l.tail, x.1 < s.cfg.eopIdle.toNat) →
    s.events = .cmd (encode (.t9Recv t e)) :: (pacedSymbols l ++ List.replicate s.cfg.eopIdle.toNat .tick) →
    captured = (l.map fun x => x.2.2).take s.params.maxbuf →
    g = (match e with
      | some v => captured.take (v.toNat + 2)
      | none => captured) →
    (∀ acc valid, q acc valid = { s with
      events := [], rxbuf := g, rxtag := (l.map fun x => x.2.1).take g.length, rxbufValid := valid
      t9Timer := 0, t9Explen := e, t9Ovf := decide (s.params.maxbuf < l.length), chk16Acc := acc }) →
    (g.length < 3 → s.EndsIn ((q s.chk16Acc false).ended .frameTooShort (BitVec.ofNat 16 g.length))) ∧
    (∀ (d : Bytes) (hi lo : Byte), d ≠ [] → g = d ++ [hi, lo] →
      (chk16 d = u16be hi lo → s.EndsIn ((q (chk16 d) true).answered (valueRsp d))) ∧
      (chk16 d ≠ u16be hi lo → s.EndsIn ((q (chk16 d) false).ended .checksumMismatch (chk16 d))))) ∧
  (∀ (s : State) (t : BitVec 32) (e : Option (BitVec 16)) (d : Bytes),
    s.Idle → t ≠ 0 → e ≠ some 0xFFFF → s.rxq = [] → s.cfg.eopIdle ≠ 0 →
    d ≠ [] → d.length + 2 ≤ s.params.maxbuf → (∀ v, e = some v → d.length ≤ v.toNat) →
    s.events = .cmd (encode (.t9Recv t e)) ::
      ((frameChars (d ++ be16 (chk16 d))).map .rxChar ++ List.replicate s.cfg.eopIdle.toNat .tick) →
    ∃ u : State, runSteps (1 + (d.length + 2) + s.cfg.eopIdle.toNat) s = .next u ∧
      u.rsp = s.rsp ++ [valueRsp d] ∧ u.errKind = .none ∧ u.t9State = .off ∧ u.t9Timer = 0 ∧
      u.rxbuf = d ++ be16 (chk16 d) ∧ u.rxtag = true :: List.replicate (d.length + 1) false ∧
      u.chk16Acc = chk16 d ∧ u.t9Ovf = false ∧ u.s9Ferr = s.s9Ferr ∧ u.events = [] ∧ u.rxq = [] ∧
      u.lineTx = s.lineTx ∧ u.txbuf = s.txbuf ∧ u.xchState = s.xchState ∧ u.xchResp = s.xchResp)

/-! ## PKT -/

/-- R301 and R302: a legal packet is encoded in six bytes, which decode to its fields; an illegal port or type is
refused. -/
def Obligations.PacketEncodeLayout : Prop :=
  (∀ (port ty : Byte) (ad pa : BitVec 16),
    decode [0x80, port, ty, hi8 ad, lo8 ad, hi8 pa, lo8 pa] = .ok (.pktEnc port ty ad pa) ∧
    pktDecode (packetBody port ty ad pa) = (port, ty, ad, pa)) ∧
  ∀ (s : State) (port ty : Byte) (ad pa : BitVec 16), s.Idle →
    (port.toNat ≤ 9 → ty.toNat ∈ [2, 3, 4, 22] → exec (.pktEnc port ty ad pa) s =
      .next (s.answered [0x00, 0x00, 0x00, 0x01, 0x00, 0x06, port, ty, hi8 ad, lo8 ad, hi8 pa, lo8 pa])) ∧
    (9 < port.toNat ∨ ty.toNat ∉ [2, 3, 4, 22] →
      exec (.pktEnc port ty ad pa) s = .next (s.ended .illegalOperand 0))

/-- R303 and R304: a response is stripped of its status byte, or raises `FrameTooShort` or `InvalidCommandAck` with the
low seven bits; a payload of two bytes is a value, any other raises `LengthMismatch`. -/
def Obligations.PacketResponseAndValue : Prop :=
  (∀ f : Bytes, f.length < 65536 →
    decode (0x81 :: be16 (BitVec.ofNat 16 f.length) ++ f) = .ok (.pktRsp f) ∧
    decode (0x82 :: be16 (BitVec.ofNat 16 f.length) ++ f) = .ok (.pktU16 f)) ∧
  ∀ s : State, s.Idle →
    (∀ r : Bytes, r.length < 2 →
      exec (.pktRsp r) s = .next (s.ended .frameTooShort (BitVec.ofNat 16 r.length))) ∧
    (∀ (st : Byte) (p : Bytes), p ≠ [] →
      (st.toNat < 128 → exec (.pktRsp (st :: p)) s = .next (s.answered (valueRsp p))) ∧
      (128 ≤ st.toNat → exec (.pktRsp (st :: p)) s =
        .next (s.ended .invalidCommandAck (BitVec.ofNat 16 (st.toNat - 128))))) ∧
    (∀ b c : Byte, exec (.pktU16 [b, c]) s = .next (s.answered (valueRsp [b, c]))) ∧
    (∀ p : Bytes, p.length ≠ 2 →
      exec (.pktU16 p) s = .next (s.ended .lengthMismatch (BitVec.ofNat 16 p.length)))

/-! ## XCH -/

/-- The three exchange operations, with legal operands: with no stale input they send their first attempt over the
configured transport and await the response, and nothing is answered yet; what waits in `RXQ` is then handled, oldest
first, as if it arrived right after the receive of that attempt started (spec/47_exchange.md sections 1 and 2,
spec/45_transport9.md section 2, spec/43_pjon_frame.md section 3; log entries 5, 8, 10 and 14 are about what the rules
leave open; that stale bytes that end the receive are settled in the same event is DEDUCED, log entry 12). -/
def Obligations.ExchangeSendsFirstAttempt : Prop :=
  (∀ (s : State) (port ty : Byte) (ad pa : BitVec 16) (e : Option (BitVec 16)),
    s.Idle → s.rxq = [] → port.toNat ≤ 9 →
    (s.cfg.transport = .ser9 →
      (ty.toNat ∈ [2, 3, 4, 22] → exec (.xchSend port ty ad pa e) s =
        .next ((s.exchangeBegun .send (packetBody port ty ad pa) e).sent9
          (packetBody port ty ad pa) (e.map (· + 1)))) ∧
      exec (.xchQuery port ad pa) s =
        .next ((s.exchangeBegun .query (packetBody port 2 ad pa) (some 2)).sent9
          (packetBody port 2 ad pa) (some 3)) ∧
      exec (.xchControl port ad pa) s =
        .next ((s.exchangeBegun .control (packetBody port 3 ad pa) none).sent9
          (packetBody port 3 ad pa) none)) ∧
    (s.cfg.transport = .pjon →
      (ty.toNat ∈ [2, 3, 4, 22] → exec (.xchSend port ty ad pa e) s =
        .next ((s.exchangeBegun .send (packetBody port ty ad pa) e).sentPjon (packetBody port ty ad pa))) ∧
      exec (.xchQuery port ad pa) s =
        .next ((s.exchangeBegun .query (packetBody port 2 ad pa) (some 2)).sentPjon (packetBody port 2 ad pa)) ∧
      exec (.xchControl port ad pa) s =
        .next ((s.exchangeBegun .control (packetBody port 3 ad pa) none).sentPjon (packetBody port 3 ad pa)))) ∧
  (∀ (s : State) (op : XchOp) (port ty : Byte) (ad pa : BitVec 16) (e : Option (BitVec 16)),
    s.Idle → port.toNat ≤ 9 → ty.toNat ∈ [2, 3, 4, 22] →
    ∃ s₀ : State, exec (exchangeCommand op port ty ad pa e) { s with rxq := [] } = .next s₀ ∧
      (∀ cs : List (BitVec 11), s.cfg.transport = .ser9 → s.rxq = cs.map .char →
        exec (exchangeCommand op port ty ad pa e) s = .next (cs.foldl (fun u c => onRxChar c u) s₀)) ∧
      (∀ bs : Bytes, s.cfg.transport = .pjon → s.rxq = bs.map .byte →
        exec (exchangeCommand op port ty ad pa e) s = .next (bs.foldl (fun u b => onRxByte b u) s₀)))

/-- The validation of a response: one under two bytes fails the exchange with `FrameTooShort`, one whose status byte has
bit 7 set with `InvalidCommandAck` and its low seven bits, any other ends it in `Done` with the payload in `XCH.RESP`;
neither failure is retried (spec/47_exchange.md section 1). What each of the three operations then answers is section 2
of that file. Two points are the model's: `XCH.LASTERR` holds the info as well as the kind (DEDUCED, log entry 15), and
the `LengthMismatch` of a query whose payload is not two bytes leaves `XCH.LASTERR` as it is (DEDUCED, log entry 13).
-/
def Obligations.ExchangeValidatesResponse : Prop :=
  ∀ s : State, s.xchState = .awaitingResponse →
    (∀ r : Bytes, r.length < 2 → receiveEnded (s, some (.value r)) =
      ({ s with xchState := .failed, xchLasterr := some (.frameTooShort, BitVec.ofNat 16 r.length) } : State).ended
        .frameTooShort (BitVec.ofNat 16 r.length)) ∧
    (∀ (st : Byte) (p : Bytes), p ≠ [] →
      (128 ≤ st.toNat → receiveEnded (s, some (.value (st :: p))) =
        ({ s with xchState := .failed
                  xchLasterr := some (.invalidCommandAck, BitVec.ofNat 16 (st.toNat - 128)) } : State).ended
          .invalidCommandAck (BitVec.ofNat 16 (st.toNat - 128))) ∧
      (st.toNat < 128 →
        (s.xchOp = .send → receiveEnded (s, some (.value (st :: p))) =
          ({ s with xchState := .done, xchResp := p } : State).answered (valueRsp p)) ∧
        (s.xchOp = .control → receiveEnded (s, some (.value (st :: p))) =
          ({ s with xchState := .done, xchResp := p } : State).answered voidRsp) ∧
        (s.xchOp = .query → p.length = 2 → receiveEnded (s, some (.value (st :: p))) =
          ({ s with xchState := .done, xchResp := p } : State).answered (valueRsp p)) ∧
        (s.xchOp = .query → p.length ≠ 2 → receiveEnded (s, some (.value (st :: p))) =
          ({ s with xchState := .done, xchResp := p } : State).ended .lengthMismatch (BitVec.ofNat 16 p.length))))

/-- The retry decision after a receive that returned no data: a kind that is not retryable fails the exchange at once; a
retryable one, or `None`, which counts as `NoResponse`, fails it when no retry is left, and otherwise sends the same
request again and awaits, with one more retry and attempt counted and no answer; stale input in `RXQ` is then handled,
oldest first, as if it arrived right after the new receive started (spec/47_exchange.md section 1,
spec/45_transport9.md section 2, spec/43_pjon_frame.md section 3). The model's readings in it: `ERR.KIND` and `ERR.INFO`
stay as they are when the next attempt is sent (DEDUCED, log entry 5), `XCH.LASTERR` holds the info too (DEDUCED, log
entry 15), and stale bytes that end the new receive are settled in the same event (DEDUCED, log entry 12). -/
def Obligations.ExchangeRetryDecision : Prop :=
  ∀ (s : State) (r : OpResult) (k : ErrKind) (info : BitVec 16), s.xchState = .awaitingResponse →
    r = .err k info ∨ (r = .noValue ∧ k = .noResponse ∧ info = 0) →
    ((k.retryable = false ∨ s.cfg.retryPacket ≤ s.xchRetries) → receiveEnded (s, some r) =
      ({ s with xchState := .failed, xchLasterr := some (k, info) } : State).ended k info) ∧
    (k ∈ [ErrKind.noResponse, .checksumMismatch, .headerCrcMismatch, .payloadCrcMismatch, .remoteError,
        .lengthMismatch, .malformedFrame] → s.xchRetries < s.cfg.retryPacket → s.rxq = [] →
      let u := receiveEnded (s, some r)
      u.xchState = .awaitingResponse ∧ u.xchRetries = s.xchRetries + 1 ∧ u.xchAttempts = s.xchAttempts + 1 ∧
        u.xchLasterr = some (k, info) ∧ u.xchReq = s.xchReq ∧ u.xchExplen = s.xchExplen ∧ u.xchOp = s.xchOp ∧
        u.xchResp = s.xchResp ∧ u.rsp = s.rsp ∧ u.errKind = s.errKind ∧ u.errInfo = s.errInfo ∧
        u.lineTx = s.lineTx ++ requestTrace s.cfg (bytes48 s.xchReq) ∧ u.rxbuf = [] ∧ u.rxq = [] ∧
        (s.cfg.transport = .ser9 → u.t9State = .waitFirst ∧ u.t9Timer = s.cfg.rxTimeout ∧
          u.t9Explen = s.xchExplen.map (· + 1)) ∧
        (s.cfg.transport = .pjon → u.pjfRxstate = .listen ∧ u.pjfTimer = s.cfg.rxTimeout)) ∧
    (k.retryable = true → s.xchRetries < s.cfg.retryPacket →
      (∀ cs : List (BitVec 11), s.cfg.transport = .ser9 → s.rxq = cs.map .char →
        receiveEnded (s, some r) =
          cs.foldl (fun u c => onRxChar c u) (receiveEnded ({ s with rxq := [] }, some r))) ∧
      (∀ bs : Bytes, s.cfg.transport = .pjon → s.rxq = bs.map .byte →
        receiveEnded (s, some r) =
          bs.foldl (fun u b => onRxByte b u) (receiveEnded ({ s with rxq := [] }, some r)))) ∧
    (k ∈ [ErrKind.frameTooShort, .unsupportedHeaderBit] → k.retryable = false)

/-- Retry exhaustion: on a silent line an exchange of any of the three operations sends its request exactly
`CFG.RETRY_PACKET + 1` times, identically, and fails with `NoResponse` at tick `(CFG.RETRY_PACKET + 1) *
CFG.RX_TIMEOUT` and not before: after fewer ticks it still awaits, has answered nothing, and has made one attempt more
than timeouts have passed; on either transport (spec/47_exchange.md section 3). That `XCH.LASTERR` holds the info 0 too
is log entry 15. -/
def Obligations.SilentLineExhaustsRetries : Prop :=
  ∀ (s : State) (op : XchOp) (port ty : Byte) (ad pa : BitVec 16) (e : Option (BitVec 16)) (n : Nat),
    s.Idle → s.ConfigLoaded → s.rxq = [] → port.toNat ≤ 9 → ty.toNat ∈ [2, 3, 4, 22] → e ≠ some 0xFFFF →
    n = (s.cfg.retryPacket.toNat + 1) * s.cfg.rxTimeout.toNat →
    s.events = .cmd (encode (exchangeCommand op port ty ad pa e)) :: List.replicate n .tick →
    (∀ k : Nat, k < n → ∃ u : State, runSteps (1 + k) s = .next u ∧ u.xchState = .awaitingResponse ∧
      u.rsp = s.rsp ∧ u.xchAttempts.toNat = k / s.cfg.rxTimeout.toNat + 1) ∧
    ∃ u : State, runSteps (1 + n) s = .next u ∧
      u.xchState = .failed ∧ u.xchAttempts.toNat = s.cfg.retryPacket.toNat + 1 ∧
      u.xchRetries = s.cfg.retryPacket ∧ u.xchLasterr = some (.noResponse, 0) ∧ u.xchResp = [] ∧
      u.errKind = .noResponse ∧ u.errInfo = 0 ∧ u.rsp = s.rsp ++ [errorRsp 0x01 0] ∧
      u.lineTx = s.lineTx ++ (List.replicate (s.cfg.retryPacket.toNat + 1)
        (requestTrace s.cfg (packetBody port (exchangeType op ty) ad pa))).flatten ∧
      u.t9State = .off ∧ u.pjfRxstate = .off ∧ u.events = [] ∧ u.cfg = s.cfg

/-- Retry recovery, on either line and for each of the three operations: if at most `CFG.RETRY_PACKET` attempts fail
retryably, by silence or by a damaged, malformed or misdirected response, and the next one gets a response whose status
byte accepts, the exchange ends in `Done` with the payload after one request more than failures, all identical, with the
last failure in `XCH.LASTERR`; if all `CFG.RETRY_PACKET + 1` attempts fail so, it ends in `Failed` with the error of the
last one. Nothing is answered before the last event (spec/47_exchange.md section 3; a query's payload of another length
than two ends it with `LengthMismatch`, section 2). The info in `XCH.LASTERR`, its value after such a query, and the
received length of a 9-bit response are log entries 15, 13 and 19. -/
def Obligations.ExchangeRecoversAfterSilence : Prop :=
  ∀ (s : State) (op : XchOp) (port ty : Byte) (ad pa : BitVec 16) (e : Option (BitVec 16))
    (fails : List (List Event × (ErrKind × BitVec 16))) (tail : List Event),
    s.Idle → s.ConfigLoaded → s.rxq = [] →
    port.toNat ≤ 9 → ty.toNat ∈ [2, 3, 4, 22] → e ≠ some 0xFFFF →
    (∀ x ∈ fails, FailedAttempt s.cfg s.params.maxbuf (exchangeExpected op e) x.1 x.2) →
    s.events = .cmd (encode (exchangeCommand op port ty ad pa e)) :: ((fails.map Prod.fst).flatten ++ tail) →
    (∀ (sender st : Byte) (p : Bytes), fails.length ≤ s.cfg.retryPacket.toNat → st.toNat < 128 → p ≠ [] →
      (s.cfg.transport = .ser9 → p.length + 3 ≤ s.params.maxbuf ∧
        ∀ v, exchangeExpected op e = some v → p.length ≤ v.toNat) →
      (s.cfg.transport = .pjon → p.length ≤ 245) →
      tail = responseEvents s.cfg sender (st :: p) →
      ∃ u : State, s.EndsIn u ∧
        u.xchState = .done ∧ u.xchResp = p ∧ u.readXchResp = some p ∧
        u.xchAttempts.toNat = fails.length + 1 ∧ u.xchRetries.toNat = fails.length ∧
        u.xchLasterr = fails.getLast?.map Prod.snd ∧
        (op ≠ .query ∨ p.length = 2 → u.errKind = .none ∧ u.errInfo = 0) ∧
        u.rsp = s.rsp ++ [exchangeAnswer op p] ∧
        u.lineTx = s.lineTx ++ (List.replicate (fails.length + 1)
          (requestTrace s.cfg (packetBody port (exchangeType op ty) ad pa))).flatten ∧
        u.t9State = .off ∧ u.pjfRxstate = .off ∧ u.events = [] ∧ u.cfg = s.cfg) ∧
    (∀ (k : ErrKind) (info : BitVec 16), fails.length = s.cfg.retryPacket.toNat + 1 → tail = [] →
      fails.getLast?.map Prod.snd = some (k, info) →
      ∃ u : State, s.EndsIn u ∧
        u.xchState = .failed ∧ u.xchResp = [] ∧ u.xchAttempts.toNat = fails.length ∧
        u.xchRetries = s.cfg.retryPacket ∧ u.xchLasterr = some (k, info) ∧ u.errKind = k ∧ u.errInfo = info ∧
        u.rsp = s.rsp ++ [errorRsp (k.code.zeroExtend 8) info] ∧
        u.lineTx = s.lineTx ++ (List.replicate fails.length
          (requestTrace s.cfg (packetBody port (exchangeType op ty) ad pa))).flatten ∧
        u.t9State = .off ∧ u.pjfRxstate = .off ∧ u.events = [] ∧ u.cfg = s.cfg)

/-! ## Host sequences -/

/-- Topology gating and search order of the host sequences, for any device-type codes and any bus
(spec/48_host_discovery.md): a port 0 that is no hub ends `enumerate` after one scan with that device alone; a hub makes
it scan ports 0 to 9 in order and map those that answer, unless a scan fails otherwise than with `NoResponse`; no answer
at port 0 is `DeviceNotFound`; `find_device` returns the first port of the wanted type, and `DeviceNotFound` after ten
scans where none has it; another failure ends either at that scan. That the sequences are given as functions
is log entry 18; which type a code has when two of the codes are equal is the model's choice, log entry 23. -/
def Obligations.EnumerateGatesOnHub : Prop :=
  ∀ (codes : DeviceCodes) (bus : Byte → QueryOutcome),
    (∀ v : BitVec 16, bus 0 = .value v → codes.typeOf (lo8 v) ≠ .hub →
      startEnumerate.run codes bus 10 = ([0], .ended (.topology (Vector.ofFn fun q =>
        if q = 0 then some { deviceType := codes.typeOf (lo8 v), port := 0, revision := none } else none)))) ∧
    (∀ v : BitVec 16, bus 0 = .value v → codes.typeOf (lo8 v) = .hub →
      (∀ (q : Port) (k : ErrKind), bus (portByte q) = .failed k → k = .noResponse) →
      startEnumerate.run codes bus 10 =
        ((List.finRange 10).map portByte, .ended (.topology (Vector.ofFn fun q =>
          match bus (portByte q) with
          | .value w => some { deviceType := codes.typeOf (lo8 w), port := portByte q, revision := none }
          | .failed _ => none)))) ∧
    (bus 0 = .failed .noResponse → startEnumerate.run codes bus 10 = ([0], .ended (.failed .deviceNotFound))) ∧
    (∀ (want : DeviceType) (q : Port) (v : BitVec 16), bus (portByte q) = .value v → codes.typeOf (lo8 v) = want →
      (∀ r : Port, r < q → bus (portByte r) = .failed .noResponse ∨
        ∃ w, bus (portByte r) = .value w ∧ codes.typeOf (lo8 w) ≠ want) →
      (startFind want).run codes bus 10 =
        (((List.finRange 10).take (q.val + 1)).map portByte, .ended (.foundAt q))) ∧
    (∀ want : DeviceType,
      (∀ r : Port, bus (portByte r) = .failed .noResponse ∨
        ∃ w, bus (portByte r) = .value w ∧ codes.typeOf (lo8 w) ≠ want) →
      (startFind want).run codes bus 10 = ((List.finRange 10).map portByte, .ended (.failed .deviceNotFound))) ∧
    (∀ (d : Discovery) (k : ErrKind), k ≠ .noResponse → bus d.port = .failed k →
      d.run codes bus 10 = ([d.port], .ended (.failed k)))

/-- The host sequences as loops of `XCH.QUERY` on the block, and the sessions (spec/48_host_discovery.md). When the query
of a scan has run on the block and sent its answer, and no one else issues a command meanwhile, the host has read that
answer and goes on as the sequence says; a value and an error are read as they were sent. On a silent line `scan` finds
nothing after `(CFG.RETRY_PACKET + 1) * CFG.RX_TIMEOUT` ticks, `enumerate` fails then with `DeviceNotFound`, and
`find_device` fails so after ten times as many, with the requests of ports 0 to 9 sent in order; a response to the first
query gives `scan` the low byte of its value, and ends `enumerate` with one query where that is no hub. A session has a
port of 0 to 9, fixed at creation; its operations are `XCH.QUERY`, parameter 0 by default, and `XCH.CONTROL` on that
port, refused with `Busy` while the block is busy. That the host issues the next query at once, with nothing of the line
in between, and that the sequences are functions is the model's choice, log entry 18; so is the type of a
code when two of the codes are equal, log entry 23. -/
def Obligations.DiscoveryDrivesBlock : Prop :=
  (∀ (codes : DeviceCodes) (h : HostSystem) (d : Discovery) (n : Nat) (s b : State) (r : Bytes),
    h.task = .issue d → (∀ ev ∈ h.block.events, ev.isCommand = false) →
    s = { h.block with events := .cmd (scanCommand d.port) :: h.block.events } →
    (∀ k, k ≤ n → ∃ w : State, runSteps k s = .next w ∧ w.rsp = s.rsp) →
    runSteps (n + 1) s = .next b → b.rsp = s.rsp ++ [r] →
    runHost codes (n + 1) h = .next { block := b, task := (d.next codes (readAnswer r)).task }) ∧
  (∀ v : BitVec 16, readAnswer (valueRsp (be16 v)) = .value v) ∧
  (∀ (k : ErrKind) (info : BitVec 16), k ≠ .none →
    readAnswer (errorRsp (k.code.zeroExtend 8) info) = .failed k) ∧
  (∀ (codes : DeviceCodes) (s : State) (n : Nat), s.Idle → s.ConfigLoaded → s.rxq = [] →
    n = (s.cfg.retryPacket.toNat + 1) * s.cfg.rxTimeout.toNat →
    (s.events = List.replicate n .tick →
      (∀ p : Port, ∃ u : State,
        runHost codes (1 + n) { block := s, task := .issue (startScan (portByte p)) } =
          .next { block := u, task := .ended (.scanned none) }) ∧
      ∃ u : State, runHost codes (1 + n) { block := s, task := .issue startEnumerate } =
        .next { block := u, task := .ended (.failed .deviceNotFound) }) ∧
    (∀ want : DeviceType, s.events = List.replicate (10 * n) .tick →
      ∃ u : State, runHost codes (10 * (1 + n)) { block := s, task := .issue (startFind want) } =
          .next { block := u, task := .ended (.failed .deviceNotFound) } ∧
        u.lineTx = s.lineTx ++ (List.finRange 10).flatMap fun p => (List.replicate (s.cfg.retryPacket.toNat + 1)
          (requestTrace s.cfg (packetBody (portByte p) 2 0x0000 0))).flatten)) ∧
  (∀ (codes : DeviceCodes) (s : State) (sender st hi lo : Byte), s.Idle → s.ConfigLoaded → s.rxq = [] →
    st.toNat < 128 → s.events = responseEvents s.cfg sender [st, hi, lo] →
    (∀ p : Port, ∃ u : State,
      runHost codes (1 + s.events.length) { block := s, task := .issue (startScan (portByte p)) } =
        .next { block := u, task := .ended (.scanned (some lo)) }) ∧
    (codes.typeOf lo ≠ .hub → ∃ u : State,
      runHost codes (1 + s.events.length) { block := s, task := .issue startEnumerate } =
        .next { block := u, task := .ended (.topology (Vector.ofFn fun q =>
          if q = 0 then some { deviceType := codes.typeOf lo, port := 0, revision := none } else none)) } ∧
      u.lineTx = s.lineTx ++ requestTrace s.cfg (packetBody 0 2 0x0000 0)) ∧
    (codes.typeOf lo = .hub → ∃ u : State,
      runHost codes (1 + s.events.length) { block := s, task := .issue startEnumerate } =
        .next { block := u, task := .issue (.enumerate 1 (Vector.ofFn fun q =>
          if q = 0 then some { deviceType := .hub, port := 0, revision := none } else none)) })) ∧
  (∀ port : Byte, (9 < port.toNat → createSession port = none) ∧
    (port.toNat ≤ 9 → ∃ ses, createSession port = some ses ∧ portByte ses.port = port)) ∧
  (∀ (ses : Session) (s : State) (reg v : BitVec 16),
    runSessionQuery ses s reg = exec (.xchQuery (portByte ses.port) reg 0) s ∧
    runSessionQuery ses s reg v = exec (.xchQuery (portByte ses.port) reg v) s ∧
    runSessionControl ses s reg v = exec (.xchControl (portByte ses.port) reg v) s ∧
    (¬ s.Idle →
      runSessionQuery ses s reg v =
        .next { s with rsp := s.rsp ++ [errorRsp 0x0F (s.xchState.code.zeroExtend 16)] } ∧
      runSessionControl ses s reg v =
        .next { s with rsp := s.rsp ++ [errorRsp 0x0F (s.xchState.code.zeroExtend 16)] }))
end

