-- ==== Sys2Proof/Laws/State.lean ====
section
/-! SUPPORT. One lemma per field per named update of the state, so that no later proof unfolds a record update. -/

namespace Sys2Proof.Machine

/-! `withErr`: both error registers (R34). -/

@[simp] theorem State.withErr_params (k : ErrKind) (info : BitVec 16) (s : State) : (s.withErr k info).params = s.params := rfl
@[simp] theorem State.withErr_cfg (k : ErrKind) (info : BitVec 16) (s : State) : (s.withErr k info).cfg = s.cfg := rfl
@[simp] theorem State.withErr_chk16Acc (k : ErrKind) (info : BitVec 16) (s : State) : (s.withErr k info).chk16Acc = s.chk16Acc := rfl
@[simp] theorem State.withErr_crc8Reg (k : ErrKind) (info : BitVec 16) (s : State) : (s.withErr k info).crc8Reg = s.crc8Reg := rfl
@[simp] theorem State.withErr_crc32Reg (k : ErrKind) (info : BitVec 16) (s : State) : (s.withErr k info).crc32Reg = s.crc32Reg := rfl
@[simp] theorem State.withErr_txbuf (k : ErrKind) (info : BitVec 16) (s : State) : (s.withErr k info).txbuf = s.txbuf := rfl
@[simp] theorem State.withErr_rxbuf (k : ErrKind) (info : BitVec 16) (s : State) : (s.withErr k info).rxbuf = s.rxbuf := rfl
@[simp] theorem State.withErr_rxtag (k : ErrKind) (info : BitVec 16) (s : State) : (s.withErr k info).rxtag = s.rxtag := rfl
@[simp] theorem State.withErr_escState (k : ErrKind) (info : BitVec 16) (s : State) : (s.withErr k info).escState = s.escState := rfl
@[simp] theorem State.withErr_pjfRxstate (k : ErrKind) (info : BitVec 16) (s : State) : (s.withErr k info).pjfRxstate = s.pjfRxstate := rfl
@[simp] theorem State.withErr_pjfTimer (k : ErrKind) (info : BitVec 16) (s : State) : (s.withErr k info).pjfTimer = s.pjfTimer := rfl
@[simp] theorem State.withErr_pjfSender (k : ErrKind) (info : BitVec 16) (s : State) : (s.withErr k info).pjfSender = s.pjfSender := rfl
@[simp] theorem State.withErr_pjfHdr (k : ErrKind) (info : BitVec 16) (s : State) : (s.withErr k info).pjfHdr = s.pjfHdr := rfl
@[simp] theorem State.withErr_pjfTimeout (k : ErrKind) (info : BitVec 16) (s : State) : (s.withErr k info).pjfTimeout = s.pjfTimeout := rfl
@[simp] theorem State.withErr_s9Pmode (k : ErrKind) (info : BitVec 16) (s : State) : (s.withErr k info).s9Pmode = s.s9Pmode := rfl
@[simp] theorem State.withErr_s9Ferr (k : ErrKind) (info : BitVec 16) (s : State) : (s.withErr k info).s9Ferr = s.s9Ferr := rfl
@[simp] theorem State.withErr_t9State (k : ErrKind) (info : BitVec 16) (s : State) : (s.withErr k info).t9State = s.t9State := rfl
@[simp] theorem State.withErr_t9Timer (k : ErrKind) (info : BitVec 16) (s : State) : (s.withErr k info).t9Timer = s.t9Timer := rfl
@[simp] theorem State.withErr_t9Explen (k : ErrKind) (info : BitVec 16) (s : State) : (s.withErr k info).t9Explen = s.t9Explen := rfl
@[simp] theorem State.withErr_t9Ovf (k : ErrKind) (info : BitVec 16) (s : State) : (s.withErr k info).t9Ovf = s.t9Ovf := rfl
@[simp] theorem State.withErr_xchState (k : ErrKind) (info : BitVec 16) (s : State) : (s.withErr k info).xchState = s.xchState := rfl
@[simp] theorem State.withErr_xchOp (k : ErrKind) (info : BitVec 16) (s : State) : (s.withErr k info).xchOp = s.xchOp := rfl
@[simp] theorem State.withErr_xchRetries (k : ErrKind) (info : BitVec 16) (s : State) : (s.withErr k info).xchRetries = s.xchRetries := rfl
@[simp] theorem State.withErr_xchAttempts (k : ErrKind) (info : BitVec 16) (s : State) : (s.withErr k info).xchAttempts = s.xchAttempts := rfl
@[simp] theorem State.withErr_xchReq (k : ErrKind) (info : BitVec 16) (s : State) : (s.withErr k info).xchReq = s.xchReq := rfl
@[simp] theorem State.withErr_xchExplen (k : ErrKind) (info : BitVec 16) (s : State) : (s.withErr k info).xchExplen = s.xchExplen := rfl
@[simp] theorem State.withErr_xchLasterr (k : ErrKind) (info : BitVec 16) (s : State) : (s.withErr k info).xchLasterr = s.xchLasterr := rfl
@[simp] theorem State.withErr_xchResp (k : ErrKind) (info : BitVec 16) (s : State) : (s.withErr k info).xchResp = s.xchResp := rfl
@[simp] theorem State.withErr_errKind (k : ErrKind) (info : BitVec 16) (s : State) : (s.withErr k info).errKind = k := rfl
@[simp] theorem State.withErr_errInfo (k : ErrKind) (info : BitVec 16) (s : State) : (s.withErr k info).errInfo = info := rfl
@[simp] theorem State.withErr_rxq (k : ErrKind) (info : BitVec 16) (s : State) : (s.withErr k info).rxq = s.rxq := rfl
@[simp] theorem State.withErr_rxbufValid (k : ErrKind) (info : BitVec 16) (s : State) : (s.withErr k info).rxbufValid = s.rxbufValid := rfl
@[simp] theorem State.withErr_pjfSenderValid (k : ErrKind) (info : BitVec 16) (s : State) : (s.withErr k info).pjfSenderValid = s.pjfSenderValid := rfl
@[simp] theorem State.withErr_events (k : ErrKind) (info : BitVec 16) (s : State) : (s.withErr k info).events = s.events := rfl
@[simp] theorem State.withErr_rsp (k : ErrKind) (info : BitVec 16) (s : State) : (s.withErr k info).rsp = s.rsp := rfl
@[simp] theorem State.withErr_lineTx (k : ErrKind) (info : BitVec 16) (s : State) : (s.withErr k info).lineTx = s.lineTx := rfl

/-! `setFerr` (R30). -/

@[simp] theorem State.setFerr_params (s : State) : s.setFerr.params = s.params := rfl
@[simp] theorem State.setFerr_cfg (s : State) : s.setFerr.cfg = s.cfg := rfl
@[simp] theorem State.setFerr_chk16Acc (s : State) : s.setFerr.chk16Acc = s.chk16Acc := rfl
@[simp] theorem State.setFerr_crc8Reg (s : State) : s.setFerr.crc8Reg = s.crc8Reg := rfl
@[simp] theorem State.setFerr_crc32Reg (s : State) : s.setFerr.crc32Reg = s.crc32Reg := rfl
@[simp] theorem State.setFerr_txbuf (s : State) : s.setFerr.txbuf = s.txbuf := rfl
@[simp] theorem State.setFerr_rxbuf (s : State) : s.setFerr.rxbuf = s.rxbuf := rfl
@[simp] theorem State.setFerr_rxtag (s : State) : s.setFerr.rxtag = s.rxtag := rfl
@[simp] theorem State.setFerr_escState (s : State) : s.setFerr.escState = s.escState := rfl
@[simp] theorem State.setFerr_pjfRxstate (s : State) : s.setFerr.pjfRxstate = s.pjfRxstate := rfl
@[simp] theorem State.setFerr_pjfTimer (s : State) : s.setFerr.pjfTimer = s.pjfTimer := rfl
@[simp] theorem State.setFerr_pjfSender (s : State) : s.setFerr.pjfSender = s.pjfSender := rfl
@[simp] theorem State.setFerr_pjfHdr (s : State) : s.setFerr.pjfHdr = s.pjfHdr := rfl
@[simp] theorem State.setFerr_pjfTimeout (s : State) : s.setFerr.pjfTimeout = s.pjfTimeout := rfl
@[simp] theorem State.setFerr_s9Pmode (s : State) : s.setFerr.s9Pmode = s.s9Pmode := rfl
@[simp] theorem State.setFerr_s9Ferr (s : State) : s.setFerr.s9Ferr = true := rfl
@[simp] theorem State.setFerr_t9State (s : State) : s.setFerr.t9State = s.t9State := rfl
@[simp] theorem State.setFerr_t9Timer (s : State) : s.setFerr.t9Timer = s.t9Timer := rfl
@[simp] theorem State.setFerr_t9Explen (s : State) : s.setFerr.t9Explen = s.t9Explen := rfl
@[simp] theorem State.setFerr_t9Ovf (s : State) : s.setFerr.t9Ovf = s.t9Ovf := rfl
@[simp] theorem State.setFerr_xchState (s : State) : s.setFerr.xchState = s.xchState := rfl
@[simp] theorem State.setFerr_xchOp (s : State) : s.setFerr.xchOp = s.xchOp := rfl
@[simp] theorem State.setFerr_xchRetries (s : State) : s.setFerr.xchRetries = s.xchRetries := rfl
@[simp] theorem State.setFerr_xchAttempts (s : State) : s.setFerr.xchAttempts = s.xchAttempts := rfl
@[simp] theorem State.setFerr_xchReq (s : State) : s.setFerr.xchReq = s.xchReq := rfl
@[simp] theorem State.setFerr_xchExplen (s : State) : s.setFerr.xchExplen = s.xchExplen := rfl
@[simp] theorem State.setFerr_xchLasterr (s : State) : s.setFerr.xchLasterr = s.xchLasterr := rfl
@[simp] theorem State.setFerr_xchResp (s : State) : s.setFerr.xchResp = s.xchResp := rfl
@[simp] theorem State.setFerr_errKind (s : State) : s.setFerr.errKind = s.errKind := rfl
@[simp] theorem State.setFerr_errInfo (s : State) : s.setFerr.errInfo = s.errInfo := rfl
@[simp] theorem State.setFerr_rxq (s : State) : s.setFerr.rxq = s.rxq := rfl
@[simp] theorem State.setFerr_rxbufValid (s : State) : s.setFerr.rxbufValid = s.rxbufValid := rfl
@[simp] theorem State.setFerr_pjfSenderValid (s : State) : s.setFerr.pjfSenderValid = s.pjfSenderValid := rfl
@[simp] theorem State.setFerr_events (s : State) : s.setFerr.events = s.events := rfl
@[simp] theorem State.setFerr_rsp (s : State) : s.setFerr.rsp = s.rsp := rfl
@[simp] theorem State.setFerr_lineTx (s : State) : s.setFerr.lineTx = s.lineTx := rfl

/-! `withOvf` (R31). -/

@[simp] theorem State.withOvf_params (v : Bool) (s : State) : (s.withOvf v).params = s.params := rfl
@[simp] theorem State.withOvf_cfg (v : Bool) (s : State) : (s.withOvf v).cfg = s.cfg := rfl
@[simp] theorem State.withOvf_chk16Acc (v : Bool) (s : State) : (s.withOvf v).chk16Acc = s.chk16Acc := rfl
@[simp] theorem State.withOvf_crc8Reg (v : Bool) (s : State) : (s.withOvf v).crc8Reg = s.crc8Reg := rfl
@[simp] theorem State.withOvf_crc32Reg (v : Bool) (s : State) : (s.withOvf v).crc32Reg = s.crc32Reg := rfl
@[simp] theorem State.withOvf_txbuf (v : Bool) (s : State) : (s.withOvf v).txbuf = s.txbuf := rfl
@[simp] theorem State.withOvf_rxbuf (v : Bool) (s : State) : (s.withOvf v).rxbuf = s.rxbuf := rfl
@[simp] theorem State.withOvf_rxtag (v : Bool) (s : State) : (s.withOvf v).rxtag = s.rxtag := rfl
@[simp] theorem State.withOvf_escState (v : Bool) (s : State) : (s.withOvf v).escState = s.escState := rfl
@[simp] theorem State.withOvf_pjfRxstate (v : Bool) (s : State) : (s.withOvf v).pjfRxstate = s.pjfRxstate := rfl
@[simp] theorem State.withOvf_pjfTimer (v : Bool) (s : State) : (s.withOvf v).pjfTimer = s.pjfTimer := rfl
@[simp] theorem State.withOvf_pjfSender (v : Bool) (s : State) : (s.withOvf v).pjfSender = s.pjfSender := rfl
@[simp] theorem State.withOvf_pjfHdr (v : Bool) (s : State) : (s.withOvf v).pjfHdr = s.pjfHdr := rfl
@[simp] theorem State.withOvf_pjfTimeout (v : Bool) (s : State) : (s.withOvf v).pjfTimeout = s.pjfTimeout := rfl
@[simp] theorem State.withOvf_s9Pmode (v : Bool) (s : State) : (s.withOvf v).s9Pmode = s.s9Pmode := rfl
@[simp] theorem State.withOvf_s9Ferr (v : Bool) (s : State) : (s.withOvf v).s9Ferr = s.s9Ferr := rfl
@[simp] theorem State.withOvf_t9State (v : Bool) (s : State) : (s.withOvf v).t9State = s.t9State := rfl
@[simp] theorem State.withOvf_t9Timer (v : Bool) (s : State) : (s.withOvf v).t9Timer = s.t9Timer := rfl
@[simp] theorem State.withOvf_t9Explen (v : Bool) (s : State) : (s.withOvf v).t9Explen = s.t9Explen := rfl
@[simp] theorem State.withOvf_t9Ovf (v : Bool) (s : State) : (s.withOvf v).t9Ovf = v := rfl
@[simp] theorem State.withOvf_xchState (v : Bool) (s : State) : (s.withOvf v).xchState = s.xchState := rfl
@[simp] theorem State.withOvf_xchOp (v : Bool) (s : State) : (s.withOvf v).xchOp = s.xchOp := rfl
@[simp] theorem State.withOvf_xchRetries (v : Bool) (s : State) : (s.withOvf v).xchRetries = s.xchRetries := rfl
@[simp] theorem State.withOvf_xchAttempts (v : Bool) (s : State) : (s.withOvf v).xchAttempts = s.xchAttempts := rfl
@[simp] theorem State.withOvf_xchReq (v : Bool) (s : State) : (s.withOvf v).xchReq = s.xchReq := rfl
@[simp] theorem State.withOvf_xchExplen (v : Bool) (s : State) : (s.withOvf v).xchExplen = s.xchExplen := rfl
@[simp] theorem State.withOvf_xchLasterr (v : Bool) (s : State) : (s.withOvf v).xchLasterr = s.xchLasterr := rfl
@[simp] theorem State.withOvf_xchResp (v : Bool) (s : State) : (s.withOvf v).xchResp = s.xchResp := rfl
@[simp] theorem State.withOvf_errKind (v : Bool) (s : State) : (s.withOvf v).errKind = s.errKind := rfl
@[simp] theorem State.withOvf_errInfo (v : Bool) (s : State) : (s.withOvf v).errInfo = s.errInfo := rfl
@[simp] theorem State.withOvf_rxq (v : Bool) (s : State) : (s.withOvf v).rxq = s.rxq := rfl
@[simp] theorem State.withOvf_rxbufValid (v : Bool) (s : State) : (s.withOvf v).rxbufValid = s.rxbufValid := rfl
@[simp] theorem State.withOvf_pjfSenderValid (v : Bool) (s : State) : (s.withOvf v).pjfSenderValid = s.pjfSenderValid := rfl
@[simp] theorem State.withOvf_events (v : Bool) (s : State) : (s.withOvf v).events = s.events := rfl
@[simp] theorem State.withOvf_rsp (v : Bool) (s : State) : (s.withOvf v).rsp = s.rsp := rfl
@[simp] theorem State.withOvf_lineTx (v : Bool) (s : State) : (s.withOvf v).lineTx = s.lineTx := rfl

/-! `pushRsp` (R107). -/

@[simp] theorem State.pushRsp_params (bs : Bytes) (s : State) : (s.pushRsp bs).params = s.params := rfl
@[simp] theorem State.pushRsp_cfg (bs : Bytes) (s : State) : (s.pushRsp bs).cfg = s.cfg := rfl
@[simp] theorem State.pushRsp_chk16Acc (bs : Bytes) (s : State) : (s.pushRsp bs).chk16Acc = s.chk16Acc := rfl
@[simp] theorem State.pushRsp_crc8Reg (bs : Bytes) (s : State) : (s.pushRsp bs).crc8Reg = s.crc8Reg := rfl
@[simp] theorem State.pushRsp_crc32Reg (bs : Bytes) (s : State) : (s.pushRsp bs).crc32Reg = s.crc32Reg := rfl
@[simp] theorem State.pushRsp_txbuf (bs : Bytes) (s : State) : (s.pushRsp bs).txbuf = s.txbuf := rfl
@[simp] theorem State.pushRsp_rxbuf (bs : Bytes) (s : State) : (s.pushRsp bs).rxbuf = s.rxbuf := rfl
@[simp] theorem State.pushRsp_rxtag (bs : Bytes) (s : State) : (s.pushRsp bs).rxtag = s.rxtag := rfl
@[simp] theorem State.pushRsp_escState (bs : Bytes) (s : State) : (s.pushRsp bs).escState = s.escState := rfl
@[simp] theorem State.pushRsp_pjfRxstate (bs : Bytes) (s : State) : (s.pushRsp bs).pjfRxstate = s.pjfRxstate := rfl
@[simp] theorem State.pushRsp_pjfTimer (bs : Bytes) (s : State) : (s.pushRsp bs).pjfTimer = s.pjfTimer := rfl
@[simp] theorem State.pushRsp_pjfSender (bs : Bytes) (s : State) : (s.pushRsp bs).pjfSender = s.pjfSender := rfl
@[simp] theorem State.pushRsp_pjfHdr (bs : Bytes) (s : State) : (s.pushRsp bs).pjfHdr = s.pjfHdr := rfl
@[simp] theorem State.pushRsp_pjfTimeout (bs : Bytes) (s : State) : (s.pushRsp bs).pjfTimeout = s.pjfTimeout := rfl
@[simp] theorem State.pushRsp_s9Pmode (bs : Bytes) (s : State) : (s.pushRsp bs).s9Pmode = s.s9Pmode := rfl
@[simp] theorem State.pushRsp_s9Ferr (bs : Bytes) (s : State) : (s.pushRsp bs).s9Ferr = s.s9Ferr := rfl
@[simp] theorem State.pushRsp_t9State (bs : Bytes) (s : State) : (s.pushRsp bs).t9State = s.t9State := rfl
@[simp] theorem State.pushRsp_t9Timer (bs : Bytes) (s : State) : (s.pushRsp bs).t9Timer = s.t9Timer := rfl
@[simp] theorem State.pushRsp_t9Explen (bs : Bytes) (s : State) : (s.pushRsp bs).t9Explen = s.t9Explen := rfl
@[simp] theorem State.pushRsp_t9Ovf (bs : Bytes) (s : State) : (s.pushRsp bs).t9Ovf = s.t9Ovf := rfl
@[simp] theorem State.pushRsp_xchState (bs : Bytes) (s : State) : (s.pushRsp bs).xchState = s.xchState := rfl
@[simp] theorem State.pushRsp_xchOp (bs : Bytes) (s : State) : (s.pushRsp bs).xchOp = s.xchOp := rfl
@[simp] theorem State.pushRsp_xchRetries (bs : Bytes) (s : State) : (s.pushRsp bs).xchRetries = s.xchRetries := rfl
@[simp] theorem State.pushRsp_xchAttempts (bs : Bytes) (s : State) : (s.pushRsp bs).xchAttempts = s.xchAttempts := rfl
@[simp] theorem State.pushRsp_xchReq (bs : Bytes) (s : State) : (s.pushRsp bs).xchReq = s.xchReq := rfl
@[simp] theorem State.pushRsp_xchExplen (bs : Bytes) (s : State) : (s.pushRsp bs).xchExplen = s.xchExplen := rfl
@[simp] theorem State.pushRsp_xchLasterr (bs : Bytes) (s : State) : (s.pushRsp bs).xchLasterr = s.xchLasterr := rfl
@[simp] theorem State.pushRsp_xchResp (bs : Bytes) (s : State) : (s.pushRsp bs).xchResp = s.xchResp := rfl
@[simp] theorem State.pushRsp_errKind (bs : Bytes) (s : State) : (s.pushRsp bs).errKind = s.errKind := rfl
@[simp] theorem State.pushRsp_errInfo (bs : Bytes) (s : State) : (s.pushRsp bs).errInfo = s.errInfo := rfl
@[simp] theorem State.pushRsp_rxq (bs : Bytes) (s : State) : (s.pushRsp bs).rxq = s.rxq := rfl
@[simp] theorem State.pushRsp_rxbufValid (bs : Bytes) (s : State) : (s.pushRsp bs).rxbufValid = s.rxbufValid := rfl
@[simp] theorem State.pushRsp_pjfSenderValid (bs : Bytes) (s : State) : (s.pushRsp bs).pjfSenderValid = s.pjfSenderValid := rfl
@[simp] theorem State.pushRsp_events (bs : Bytes) (s : State) : (s.pushRsp bs).events = s.events := rfl
@[simp] theorem State.pushRsp_rsp (bs : Bytes) (s : State) : (s.pushRsp bs).rsp = s.rsp ++ [bs] := rfl
@[simp] theorem State.pushRsp_lineTx (bs : Bytes) (s : State) : (s.pushRsp bs).lineTx = s.lineTx := rfl

/-! `emit` (R12). -/

@[simp] theorem State.emit_params (evs : List LineEvent) (s : State) : (s.emit evs).params = s.params := rfl
@[simp] theorem State.emit_cfg (evs : List LineEvent) (s : State) : (s.emit evs).cfg = s.cfg := rfl
@[simp] theorem State.emit_chk16Acc (evs : List LineEvent) (s : State) : (s.emit evs).chk16Acc = s.chk16Acc := rfl
@[simp] theorem State.emit_crc8Reg (evs : List LineEvent) (s : State) : (s.emit evs).crc8Reg = s.crc8Reg := rfl
@[simp] theorem State.emit_crc32Reg (evs : List LineEvent) (s : State) : (s.emit evs).crc32Reg = s.crc32Reg := rfl
@[simp] theorem State.emit_txbuf (evs : List LineEvent) (s : State) : (s.emit evs).txbuf = s.txbuf := rfl
@[simp] theorem State.emit_rxbuf (evs : List LineEvent) (s : State) : (s.emit evs).rxbuf = s.rxbuf := rfl
@[simp] theorem State.emit_rxtag (evs : List LineEvent) (s : State) : (s.emit evs).rxtag = s.rxtag := rfl
@[simp] theorem State.emit_escState (evs : List LineEvent) (s : State) : (s.emit evs).escState = s.escState := rfl
@[simp] theorem State.emit_pjfRxstate (evs : List LineEvent) (s : State) : (s.emit evs).pjfRxstate = s.pjfRxstate := rfl
@[simp] theorem State.emit_pjfTimer (evs : List LineEvent) (s : State) : (s.emit evs).pjfTimer = s.pjfTimer := rfl
@[simp] theorem State.emit_pjfSender (evs : List LineEvent) (s : State) : (s.emit evs).pjfSender = s.pjfSender := rfl
@[simp] theorem State.emit_pjfHdr (evs : List LineEvent) (s : State) : (s.emit evs).pjfHdr = s.pjfHdr := rfl
@[simp] theorem State.emit_pjfTimeout (evs : List LineEvent) (s : State) : (s.emit evs).pjfTimeout = s.pjfTimeout := rfl
@[simp] theorem State.emit_s9Pmode (evs : List LineEvent) (s : State) : (s.emit evs).s9Pmode = s.s9Pmode := rfl
@[simp] theorem State.emit_s9Ferr (evs : List LineEvent) (s : State) : (s.emit evs).s9Ferr = s.s9Ferr := rfl
@[simp] theorem State.emit_t9State (evs : List LineEvent) (s : State) : (s.emit evs).t9State = s.t9State := rfl
@[simp] theorem State.emit_t9Timer (evs : List LineEvent) (s : State) : (s.emit evs).t9Timer = s.t9Timer := rfl
@[simp] theorem State.emit_t9Explen (evs : List LineEvent) (s : State) : (s.emit evs).t9Explen = s.t9Explen := rfl
@[simp] theorem State.emit_t9Ovf (evs : List LineEvent) (s : State) : (s.emit evs).t9Ovf = s.t9Ovf := rfl
@[simp] theorem State.emit_xchState (evs : List LineEvent) (s : State) : (s.emit evs).xchState = s.xchState := rfl
@[simp] theorem State.emit_xchOp (evs : List LineEvent) (s : State) : (s.emit evs).xchOp = s.xchOp := rfl
@[simp] theorem State.emit_xchRetries (evs : List LineEvent) (s : State) : (s.emit evs).xchRetries = s.xchRetries := rfl
@[simp] theorem State.emit_xchAttempts (evs : List LineEvent) (s : State) : (s.emit evs).xchAttempts = s.xchAttempts := rfl
@[simp] theorem State.emit_xchReq (evs : List LineEvent) (s : State) : (s.emit evs).xchReq = s.xchReq := rfl
@[simp] theorem State.emit_xchExplen (evs : List LineEvent) (s : State) : (s.emit evs).xchExplen = s.xchExplen := rfl
@[simp] theorem State.emit_xchLasterr (evs : List LineEvent) (s : State) : (s.emit evs).xchLasterr = s.xchLasterr := rfl
@[simp] theorem State.emit_xchResp (evs : List LineEvent) (s : State) : (s.emit evs).xchResp = s.xchResp := rfl
@[simp] theorem State.emit_errKind (evs : List LineEvent) (s : State) : (s.emit evs).errKind = s.errKind := rfl
@[simp] theorem State.emit_errInfo (evs : List LineEvent) (s : State) : (s.emit evs).errInfo = s.errInfo := rfl
@[simp] theorem State.emit_rxq (evs : List LineEvent) (s : State) : (s.emit evs).rxq = s.rxq := rfl
@[simp] theorem State.emit_rxbufValid (evs : List LineEvent) (s : State) : (s.emit evs).rxbufValid = s.rxbufValid := rfl
@[simp] theorem State.emit_pjfSenderValid (evs : List LineEvent) (s : State) : (s.emit evs).pjfSenderValid = s.pjfSenderValid := rfl
@[simp] theorem State.emit_events (evs : List LineEvent) (s : State) : (s.emit evs).events = s.events := rfl
@[simp] theorem State.emit_rsp (evs : List LineEvent) (s : State) : (s.emit evs).rsp = s.rsp := rfl
@[simp] theorem State.emit_lineTx (evs : List LineEvent) (s : State) : (s.emit evs).lineTx = s.lineTx ++ evs := rfl

/-! `raise` (R386). -/

@[simp] theorem State.raise_params (k : ErrKind) (info : BitVec 16) (s : State) : (s.raise k info).params = s.params := rfl
@[simp] theorem State.raise_cfg (k : ErrKind) (info : BitVec 16) (s : State) : (s.raise k info).cfg = s.cfg := rfl
@[simp] theorem State.raise_chk16Acc (k : ErrKind) (info : BitVec 16) (s : State) : (s.raise k info).chk16Acc = s.chk16Acc := rfl
@[simp] theorem State.raise_crc8Reg (k : ErrKind) (info : BitVec 16) (s : State) : (s.raise k info).crc8Reg = s.crc8Reg := rfl
@[simp] theorem State.raise_crc32Reg (k : ErrKind) (info : BitVec 16) (s : State) : (s.raise k info).crc32Reg = s.crc32Reg := rfl
@[simp] theorem State.raise_txbuf (k : ErrKind) (info : BitVec 16) (s : State) : (s.raise k info).txbuf = s.txbuf := rfl
@[simp] theorem State.raise_rxbuf (k : ErrKind) (info : BitVec 16) (s : State) : (s.raise k info).rxbuf = s.rxbuf := rfl
@[simp] theorem State.raise_rxtag (k : ErrKind) (info : BitVec 16) (s : State) : (s.raise k info).rxtag = s.rxtag := rfl
@[simp] theorem State.raise_escState (k : ErrKind) (info : BitVec 16) (s : State) : (s.raise k info).escState = s.escState := rfl
@[simp] theorem State.raise_pjfRxstate (k : ErrKind) (info : BitVec 16) (s : State) : (s.raise k info).pjfRxstate = s.pjfRxstate := rfl
@[simp] theorem State.raise_pjfTimer (k : ErrKind) (info : BitVec 16) (s : State) : (s.raise k info).pjfTimer = s.pjfTimer := rfl
@[simp] theorem State.raise_pjfSender (k : ErrKind) (info : BitVec 16) (s : State) : (s.raise k info).pjfSender = s.pjfSender := rfl
@[simp] theorem State.raise_pjfHdr (k : ErrKind) (info : BitVec 16) (s : State) : (s.raise k info).pjfHdr = s.pjfHdr := rfl
@[simp] theorem State.raise_pjfTimeout (k : ErrKind) (info : BitVec 16) (s : State) : (s.raise k info).pjfTimeout = s.pjfTimeout := rfl
@[simp] theorem State.raise_s9Pmode (k : ErrKind) (info : BitVec 16) (s : State) : (s.raise k info).s9Pmode = s.s9Pmode := rfl
@[simp] theorem State.raise_s9Ferr (k : ErrKind) (info : BitVec 16) (s : State) : (s.raise k info).s9Ferr = s.s9Ferr := rfl
@[simp] theorem State.raise_t9State (k : ErrKind) (info : BitVec 16) (s : State) : (s.raise k info).t9State = s.t9State := rfl
@[simp] theorem State.raise_t9Timer (k : ErrKind) (info : BitVec 16) (s : State) : (s.raise k info).t9Timer = s.t9Timer := rfl
@[simp] theorem State.raise_t9Explen (k : ErrKind) (info : BitVec 16) (s : State) : (s.raise k info).t9Explen = s.t9Explen := rfl
@[simp] theorem State.raise_t9Ovf (k : ErrKind) (info : BitVec 16) (s : State) : (s.raise k info).t9Ovf = s.t9Ovf := rfl
@[simp] theorem State.raise_xchState (k : ErrKind) (info : BitVec 16) (s : State) : (s.raise k info).xchState = s.xchState := rfl
@[simp] theorem State.raise_xchOp (k : ErrKind) (info : BitVec 16) (s : State) : (s.raise k info).xchOp = s.xchOp := rfl
@[simp] theorem State.raise_xchRetries (k : ErrKind) (info : BitVec 16) (s : State) : (s.raise k info).xchRetries = s.xchRetries := rfl
@[simp] theorem State.raise_xchAttempts (k : ErrKind) (info : BitVec 16) (s : State) : (s.raise k info).xchAttempts = s.xchAttempts := rfl
@[simp] theorem State.raise_xchReq (k : ErrKind) (info : BitVec 16) (s : State) : (s.raise k info).xchReq = s.xchReq := rfl
@[simp] theorem State.raise_xchExplen (k : ErrKind) (info : BitVec 16) (s : State) : (s.raise k info).xchExplen = s.xchExplen := rfl
@[simp] theorem State.raise_xchLasterr (k : ErrKind) (info : BitVec 16) (s : State) : (s.raise k info).xchLasterr = if s.inExchange then some (k, info) else s.xchLasterr := rfl
@[simp] theorem State.raise_xchResp (k : ErrKind) (info : BitVec 16) (s : State) : (s.raise k info).xchResp = s.xchResp := rfl
@[simp] theorem State.raise_errKind (k : ErrKind) (info : BitVec 16) (s : State) : (s.raise k info).errKind = k := rfl
@[simp] theorem State.raise_errInfo (k : ErrKind) (info : BitVec 16) (s : State) : (s.raise k info).errInfo = info := rfl
@[simp] theorem State.raise_rxq (k : ErrKind) (info : BitVec 16) (s : State) : (s.raise k info).rxq = s.rxq := rfl
@[simp] theorem State.raise_rxbufValid (k : ErrKind) (info : BitVec 16) (s : State) : (s.raise k info).rxbufValid = s.rxbufValid := rfl
@[simp] theorem State.raise_pjfSenderValid (k : ErrKind) (info : BitVec 16) (s : State) : (s.raise k info).pjfSenderValid = s.pjfSenderValid := rfl
@[simp] theorem State.raise_events (k : ErrKind) (info : BitVec 16) (s : State) : (s.raise k info).events = s.events := rfl
@[simp] theorem State.raise_rsp (k : ErrKind) (info : BitVec 16) (s : State) : (s.raise k info).rsp = s.rsp := rfl
@[simp] theorem State.raise_lineTx (k : ErrKind) (info : BitVec 16) (s : State) : (s.raise k info).lineTx = s.lineTx := rfl

/-! `setTxbuf` (R62). -/

@[simp] theorem State.setTxbuf_params (f : Bytes) (s : State) : (s.setTxbuf f).params = s.params := rfl
@[simp] theorem State.setTxbuf_cfg (f : Bytes) (s : State) : (s.setTxbuf f).cfg = s.cfg := rfl
@[simp] theorem State.setTxbuf_chk16Acc (f : Bytes) (s : State) : (s.setTxbuf f).chk16Acc = s.chk16Acc := rfl
@[simp] theorem State.setTxbuf_crc8Reg (f : Bytes) (s : State) : (s.setTxbuf f).crc8Reg = s.crc8Reg := rfl
@[simp] theorem State.setTxbuf_crc32Reg (f : Bytes) (s : State) : (s.setTxbuf f).crc32Reg = s.crc32Reg := rfl
@[simp] theorem State.setTxbuf_txbuf (f : Bytes) (s : State) : (s.setTxbuf f).txbuf = f := rfl
@[simp] theorem State.setTxbuf_rxbuf (f : Bytes) (s : State) : (s.setTxbuf f).rxbuf = s.rxbuf := rfl
@[simp] theorem State.setTxbuf_rxtag (f : Bytes) (s : State) : (s.setTxbuf f).rxtag = s.rxtag := rfl
@[simp] theorem State.setTxbuf_escState (f : Bytes) (s : State) : (s.setTxbuf f).escState = s.escState := rfl
@[simp] theorem State.setTxbuf_pjfRxstate (f : Bytes) (s : State) : (s.setTxbuf f).pjfRxstate = s.pjfRxstate := rfl
@[simp] theorem State.setTxbuf_pjfTimer (f : Bytes) (s : State) : (s.setTxbuf f).pjfTimer = s.pjfTimer := rfl
@[simp] theorem State.setTxbuf_pjfSender (f : Bytes) (s : State) : (s.setTxbuf f).pjfSender = s.pjfSender := rfl
@[simp] theorem State.setTxbuf_pjfHdr (f : Bytes) (s : State) : (s.setTxbuf f).pjfHdr = s.pjfHdr := rfl
@[simp] theorem State.setTxbuf_pjfTimeout (f : Bytes) (s : State) : (s.setTxbuf f).pjfTimeout = s.pjfTimeout := rfl
@[simp] theorem State.setTxbuf_s9Pmode (f : Bytes) (s : State) : (s.setTxbuf f).s9Pmode = s.s9Pmode := rfl
@[simp] theorem State.setTxbuf_s9Ferr (f : Bytes) (s : State) : (s.setTxbuf f).s9Ferr = s.s9Ferr := rfl
@[simp] theorem State.setTxbuf_t9State (f : Bytes) (s : State) : (s.setTxbuf f).t9State = s.t9State := rfl
@[simp] theorem State.setTxbuf_t9Timer (f : Bytes) (s : State) : (s.setTxbuf f).t9Timer = s.t9Timer := rfl
@[simp] theorem State.setTxbuf_t9Explen (f : Bytes) (s : State) : (s.setTxbuf f).t9Explen = s.t9Explen := rfl
@[simp] theorem State.setTxbuf_t9Ovf (f : Bytes) (s : State) : (s.setTxbuf f).t9Ovf = s.t9Ovf := rfl
@[simp] theorem State.setTxbuf_xchState (f : Bytes) (s : State) : (s.setTxbuf f).xchState = s.xchState := rfl
@[simp] theorem State.setTxbuf_xchOp (f : Bytes) (s : State) : (s.setTxbuf f).xchOp = s.xchOp := rfl
@[simp] theorem State.setTxbuf_xchRetries (f : Bytes) (s : State) : (s.setTxbuf f).xchRetries = s.xchRetries := rfl
@[simp] theorem State.setTxbuf_xchAttempts (f : Bytes) (s : State) : (s.setTxbuf f).xchAttempts = s.xchAttempts := rfl
@[simp] theorem State.setTxbuf_xchReq (f : Bytes) (s : State) : (s.setTxbuf f).xchReq = s.xchReq := rfl
@[simp] theorem State.setTxbuf_xchExplen (f : Bytes) (s : State) : (s.setTxbuf f).xchExplen = s.xchExplen := rfl
@[simp] theorem State.setTxbuf_xchLasterr (f : Bytes) (s : State) : (s.setTxbuf f).xchLasterr = s.xchLasterr := rfl
@[simp] theorem State.setTxbuf_xchResp (f : Bytes) (s : State) : (s.setTxbuf f).xchResp = s.xchResp := rfl
@[simp] theorem State.setTxbuf_errKind (f : Bytes) (s : State) : (s.setTxbuf f).errKind = s.errKind := rfl
@[simp] theorem State.setTxbuf_errInfo (f : Bytes) (s : State) : (s.setTxbuf f).errInfo = s.errInfo := rfl
@[simp] theorem State.setTxbuf_rxq (f : Bytes) (s : State) : (s.setTxbuf f).rxq = s.rxq := rfl
@[simp] theorem State.setTxbuf_rxbufValid (f : Bytes) (s : State) : (s.setTxbuf f).rxbufValid = s.rxbufValid := rfl
@[simp] theorem State.setTxbuf_pjfSenderValid (f : Bytes) (s : State) : (s.setTxbuf f).pjfSenderValid = s.pjfSenderValid := rfl
@[simp] theorem State.setTxbuf_events (f : Bytes) (s : State) : (s.setTxbuf f).events = s.events := rfl
@[simp] theorem State.setTxbuf_rsp (f : Bytes) (s : State) : (s.setTxbuf f).rsp = s.rsp := rfl
@[simp] theorem State.setTxbuf_lineTx (f : Bytes) (s : State) : (s.setTxbuf f).lineTx = s.lineTx := rfl

/-! `clearRx` (R62, R27). -/

@[simp] theorem State.clearRx_params (s : State) : s.clearRx.params = s.params := rfl
@[simp] theorem State.clearRx_cfg (s : State) : s.clearRx.cfg = s.cfg := rfl
@[simp] theorem State.clearRx_chk16Acc (s : State) : s.clearRx.chk16Acc = s.chk16Acc := rfl
@[simp] theorem State.clearRx_crc8Reg (s : State) : s.clearRx.crc8Reg = s.crc8Reg := rfl
@[simp] theorem State.clearRx_crc32Reg (s : State) : s.clearRx.crc32Reg = s.crc32Reg := rfl
@[simp] theorem State.clearRx_txbuf (s : State) : s.clearRx.txbuf = s.txbuf := rfl
@[simp] theorem State.clearRx_rxbuf (s : State) : s.clearRx.rxbuf = [] := rfl
@[simp] theorem State.clearRx_rxtag (s : State) : s.clearRx.rxtag = [] := rfl
@[simp] theorem State.clearRx_escState (s : State) : s.clearRx.escState = s.escState := rfl
@[simp] theorem State.clearRx_pjfRxstate (s : State) : s.clearRx.pjfRxstate = s.pjfRxstate := rfl
@[simp] theorem State.clearRx_pjfTimer (s : State) : s.clearRx.pjfTimer = s.pjfTimer := rfl
@[simp] theorem State.clearRx_pjfSender (s : State) : s.clearRx.pjfSender = s.pjfSender := rfl
@[simp] theorem State.clearRx_pjfHdr (s : State) : s.clearRx.pjfHdr = s.pjfHdr := rfl
@[simp] theorem State.clearRx_pjfTimeout (s : State) : s.clearRx.pjfTimeout = s.pjfTimeout := rfl
@[simp] theorem State.clearRx_s9Pmode (s : State) : s.clearRx.s9Pmode = s.s9Pmode := rfl
@[simp] theorem State.clearRx_s9Ferr (s : State) : s.clearRx.s9Ferr = s.s9Ferr := rfl
@[simp] theorem State.clearRx_t9State (s : State) : s.clearRx.t9State = s.t9State := rfl
@[simp] theorem State.clearRx_t9Timer (s : State) : s.clearRx.t9Timer = s.t9Timer := rfl
@[simp] theorem State.clearRx_t9Explen (s : State) : s.clearRx.t9Explen = s.t9Explen := rfl
@[simp] theorem State.clearRx_t9Ovf (s : State) : s.clearRx.t9Ovf = s.t9Ovf := rfl
@[simp] theorem State.clearRx_xchState (s : State) : s.clearRx.xchState = s.xchState := rfl
@[simp] theorem State.clearRx_xchOp (s : State) : s.clearRx.xchOp = s.xchOp := rfl
@[simp] theorem State.clearRx_xchRetries (s : State) : s.clearRx.xchRetries = s.xchRetries := rfl
@[simp] theorem State.clearRx_xchAttempts (s : State) : s.clearRx.xchAttempts = s.xchAttempts := rfl
@[simp] theorem State.clearRx_xchReq (s : State) : s.clearRx.xchReq = s.xchReq := rfl
@[simp] theorem State.clearRx_xchExplen (s : State) : s.clearRx.xchExplen = s.xchExplen := rfl
@[simp] theorem State.clearRx_xchLasterr (s : State) : s.clearRx.xchLasterr = s.xchLasterr := rfl
@[simp] theorem State.clearRx_xchResp (s : State) : s.clearRx.xchResp = s.xchResp := rfl
@[simp] theorem State.clearRx_errKind (s : State) : s.clearRx.errKind = s.errKind := rfl
@[simp] theorem State.clearRx_errInfo (s : State) : s.clearRx.errInfo = s.errInfo := rfl
@[simp] theorem State.clearRx_rxq (s : State) : s.clearRx.rxq = s.rxq := rfl
@[simp] theorem State.clearRx_rxbufValid (s : State) : s.clearRx.rxbufValid = false := rfl
@[simp] theorem State.clearRx_pjfSenderValid (s : State) : s.clearRx.pjfSenderValid = s.pjfSenderValid := rfl
@[simp] theorem State.clearRx_events (s : State) : s.clearRx.events = s.events := rfl
@[simp] theorem State.clearRx_rsp (s : State) : s.clearRx.rsp = s.rsp := rfl
@[simp] theorem State.clearRx_lineTx (s : State) : s.clearRx.lineTx = s.lineTx := rfl

/-! `appendRx` (R62, R27). -/

@[simp] theorem State.appendRx_params (a : Bool) (d : Byte) (s : State) : (s.appendRx a d).params = s.params := rfl
@[simp] theorem State.appendRx_cfg (a : Bool) (d : Byte) (s : State) : (s.appendRx a d).cfg = s.cfg := rfl
@[simp] theorem State.appendRx_chk16Acc (a : Bool) (d : Byte) (s : State) : (s.appendRx a d).chk16Acc = s.chk16Acc := rfl
@[simp] theorem State.appendRx_crc8Reg (a : Bool) (d : Byte) (s : State) : (s.appendRx a d).crc8Reg = s.crc8Reg := rfl
@[simp] theorem State.appendRx_crc32Reg (a : Bool) (d : Byte) (s : State) : (s.appendRx a d).crc32Reg = s.crc32Reg := rfl
@[simp] theorem State.appendRx_txbuf (a : Bool) (d : Byte) (s : State) : (s.appendRx a d).txbuf = s.txbuf := rfl
@[simp] theorem State.appendRx_rxbuf (a : Bool) (d : Byte) (s : State) : (s.appendRx a d).rxbuf = s.rxbuf ++ [d] := rfl
@[simp] theorem State.appendRx_rxtag (a : Bool) (d : Byte) (s : State) : (s.appendRx a d).rxtag = s.rxtag ++ [a] := rfl
@[simp] theorem State.appendRx_escState (a : Bool) (d : Byte) (s : State) : (s.appendRx a d).escState = s.escState := rfl
@[simp] theorem State.appendRx_pjfRxstate (a : Bool) (d : Byte) (s : State) : (s.appendRx a d).pjfRxstate = s.pjfRxstate := rfl
@[simp] theorem State.appendRx_pjfTimer (a : Bool) (d : Byte) (s : State) : (s.appendRx a d).pjfTimer = s.pjfTimer := rfl
@[simp] theorem State.appendRx_pjfSender (a : Bool) (d : Byte) (s : State) : (s.appendRx a d).pjfSender = s.pjfSender := rfl
@[simp] theorem State.appendRx_pjfHdr (a : Bool) (d : Byte) (s : State) : (s.appendRx a d).pjfHdr = s.pjfHdr := rfl
@[simp] theorem State.appendRx_pjfTimeout (a : Bool) (d : Byte) (s : State) : (s.appendRx a d).pjfTimeout = s.pjfTimeout := rfl
@[simp] theorem State.appendRx_s9Pmode (a : Bool) (d : Byte) (s : State) : (s.appendRx a d).s9Pmode = s.s9Pmode := rfl
@[simp] theorem State.appendRx_s9Ferr (a : Bool) (d : Byte) (s : State) : (s.appendRx a d).s9Ferr = s.s9Ferr := rfl
@[simp] theorem State.appendRx_t9State (a : Bool) (d : Byte) (s : State) : (s.appendRx a d).t9State = s.t9State := rfl
@[simp] theorem State.appendRx_t9Timer (a : Bool) (d : Byte) (s : State) : (s.appendRx a d).t9Timer = s.t9Timer := rfl
@[simp] theorem State.appendRx_t9Explen (a : Bool) (d : Byte) (s : State) : (s.appendRx a d).t9Explen = s.t9Explen := rfl
@[simp] theorem State.appendRx_t9Ovf (a : Bool) (d : Byte) (s : State) : (s.appendRx a d).t9Ovf = s.t9Ovf := rfl
@[simp] theorem State.appendRx_xchState (a : Bool) (d : Byte) (s : State) : (s.appendRx a d).xchState = s.xchState := rfl
@[simp] theorem State.appendRx_xchOp (a : Bool) (d : Byte) (s : State) : (s.appendRx a d).xchOp = s.xchOp := rfl
@[simp] theorem State.appendRx_xchRetries (a : Bool) (d : Byte) (s : State) : (s.appendRx a d).xchRetries = s.xchRetries := rfl
@[simp] theorem State.appendRx_xchAttempts (a : Bool) (d : Byte) (s : State) : (s.appendRx a d).xchAttempts = s.xchAttempts := rfl
@[simp] theorem State.appendRx_xchReq (a : Bool) (d : Byte) (s : State) : (s.appendRx a d).xchReq = s.xchReq := rfl
@[simp] theorem State.appendRx_xchExplen (a : Bool) (d : Byte) (s : State) : (s.appendRx a d).xchExplen = s.xchExplen := rfl
@[simp] theorem State.appendRx_xchLasterr (a : Bool) (d : Byte) (s : State) : (s.appendRx a d).xchLasterr = s.xchLasterr := rfl
@[simp] theorem State.appendRx_xchResp (a : Bool) (d : Byte) (s : State) : (s.appendRx a d).xchResp = s.xchResp := rfl
@[simp] theorem State.appendRx_errKind (a : Bool) (d : Byte) (s : State) : (s.appendRx a d).errKind = s.errKind := rfl
@[simp] theorem State.appendRx_errInfo (a : Bool) (d : Byte) (s : State) : (s.appendRx a d).errInfo = s.errInfo := rfl
@[simp] theorem State.appendRx_rxq (a : Bool) (d : Byte) (s : State) : (s.appendRx a d).rxq = s.rxq := rfl
@[simp] theorem State.appendRx_rxbufValid (a : Bool) (d : Byte) (s : State) : (s.appendRx a d).rxbufValid = false := rfl
@[simp] theorem State.appendRx_pjfSenderValid (a : Bool) (d : Byte) (s : State) : (s.appendRx a d).pjfSenderValid = s.pjfSenderValid := rfl
@[simp] theorem State.appendRx_events (a : Bool) (d : Byte) (s : State) : (s.appendRx a d).events = s.events := rfl
@[simp] theorem State.appendRx_rsp (a : Bool) (d : Byte) (s : State) : (s.appendRx a d).rsp = s.rsp := rfl
@[simp] theorem State.appendRx_lineTx (a : Bool) (d : Byte) (s : State) : (s.appendRx a d).lineTx = s.lineTx := rfl

/-! `truncateRx` (R62, R282). -/

@[simp] theorem State.truncateRx_params (n : Nat) (s : State) : (s.truncateRx n).params = s.params := rfl
@[simp] theorem State.truncateRx_cfg (n : Nat) (s : State) : (s.truncateRx n).cfg = s.cfg := rfl
@[simp] theorem State.truncateRx_chk16Acc (n : Nat) (s : State) : (s.truncateRx n).chk16Acc = s.chk16Acc := rfl
@[simp] theorem State.truncateRx_crc8Reg (n : Nat) (s : State) : (s.truncateRx n).crc8Reg = s.crc8Reg := rfl
@[simp] theorem State.truncateRx_crc32Reg (n : Nat) (s : State) : (s.truncateRx n).crc32Reg = s.crc32Reg := rfl
@[simp] theorem State.truncateRx_txbuf (n : Nat) (s : State) : (s.truncateRx n).txbuf = s.txbuf := rfl
@[simp] theorem State.truncateRx_rxbuf (n : Nat) (s : State) : (s.truncateRx n).rxbuf = s.rxbuf.take n := rfl
@[simp] theorem State.truncateRx_rxtag (n : Nat) (s : State) : (s.truncateRx n).rxtag = s.rxtag.take n := rfl
@[simp] theorem State.truncateRx_escState (n : Nat) (s : State) : (s.truncateRx n).escState = s.escState := rfl
@[simp] theorem State.truncateRx_pjfRxstate (n : Nat) (s : State) : (s.truncateRx n).pjfRxstate = s.pjfRxstate := rfl
@[simp] theorem State.truncateRx_pjfTimer (n : Nat) (s : State) : (s.truncateRx n).pjfTimer = s.pjfTimer := rfl
@[simp] theorem State.truncateRx_pjfSender (n : Nat) (s : State) : (s.truncateRx n).pjfSender = s.pjfSender := rfl
@[simp] theorem State.truncateRx_pjfHdr (n : Nat) (s : State) : (s.truncateRx n).pjfHdr = s.pjfHdr := rfl
@[simp] theorem State.truncateRx_pjfTimeout (n : Nat) (s : State) : (s.truncateRx n).pjfTimeout = s.pjfTimeout := rfl
@[simp] theorem State.truncateRx_s9Pmode (n : Nat) (s : State) : (s.truncateRx n).s9Pmode = s.s9Pmode := rfl
@[simp] theorem State.truncateRx_s9Ferr (n : Nat) (s : State) : (s.truncateRx n).s9Ferr = s.s9Ferr := rfl
@[simp] theorem State.truncateRx_t9State (n : Nat) (s : State) : (s.truncateRx n).t9State = s.t9State := rfl
@[simp] theorem State.truncateRx_t9Timer (n : Nat) (s : State) : (s.truncateRx n).t9Timer = s.t9Timer := rfl
@[simp] theorem State.truncateRx_t9Explen (n : Nat) (s : State) : (s.truncateRx n).t9Explen = s.t9Explen := rfl
@[simp] theorem State.truncateRx_t9Ovf (n : Nat) (s : State) : (s.truncateRx n).t9Ovf = s.t9Ovf := rfl
@[simp] theorem State.truncateRx_xchState (n : Nat) (s : State) : (s.truncateRx n).xchState = s.xchState := rfl
@[simp] theorem State.truncateRx_xchOp (n : Nat) (s : State) : (s.truncateRx n).xchOp = s.xchOp := rfl
@[simp] theorem State.truncateRx_xchRetries (n : Nat) (s : State) : (s.truncateRx n).xchRetries = s.xchRetries := rfl
@[simp] theorem State.truncateRx_xchAttempts (n : Nat) (s : State) : (s.truncateRx n).xchAttempts = s.xchAttempts := rfl
@[simp] theorem State.truncateRx_xchReq (n : Nat) (s : State) : (s.truncateRx n).xchReq = s.xchReq := rfl
@[simp] theorem State.truncateRx_xchExplen (n : Nat) (s : State) : (s.truncateRx n).xchExplen = s.xchExplen := rfl
@[simp] theorem State.truncateRx_xchLasterr (n : Nat) (s : State) : (s.truncateRx n).xchLasterr = s.xchLasterr := rfl
@[simp] theorem State.truncateRx_xchResp (n : Nat) (s : State) : (s.truncateRx n).xchResp = s.xchResp := rfl
@[simp] theorem State.truncateRx_errKind (n : Nat) (s : State) : (s.truncateRx n).errKind = s.errKind := rfl
@[simp] theorem State.truncateRx_errInfo (n : Nat) (s : State) : (s.truncateRx n).errInfo = s.errInfo := rfl
@[simp] theorem State.truncateRx_rxq (n : Nat) (s : State) : (s.truncateRx n).rxq = s.rxq := rfl
@[simp] theorem State.truncateRx_rxbufValid (n : Nat) (s : State) : (s.truncateRx n).rxbufValid = s.rxbufValid := rfl
@[simp] theorem State.truncateRx_pjfSenderValid (n : Nat) (s : State) : (s.truncateRx n).pjfSenderValid = s.pjfSenderValid := rfl
@[simp] theorem State.truncateRx_events (n : Nat) (s : State) : (s.truncateRx n).events = s.events := rfl
@[simp] theorem State.truncateRx_rsp (n : Nat) (s : State) : (s.truncateRx n).rsp = s.rsp := rfl
@[simp] theorem State.truncateRx_lineTx (n : Nat) (s : State) : (s.truncateRx n).lineTx = s.lineTx := rfl

/-! `answered`: a successful end (R386). -/

@[simp] theorem State.answered_params (r : Bytes) (s : State) : (s.answered r).params = s.params := rfl
@[simp] theorem State.answered_cfg (r : Bytes) (s : State) : (s.answered r).cfg = s.cfg := rfl
@[simp] theorem State.answered_chk16Acc (r : Bytes) (s : State) : (s.answered r).chk16Acc = s.chk16Acc := rfl
@[simp] theorem State.answered_crc8Reg (r : Bytes) (s : State) : (s.answered r).crc8Reg = s.crc8Reg := rfl
@[simp] theorem State.answered_crc32Reg (r : Bytes) (s : State) : (s.answered r).crc32Reg = s.crc32Reg := rfl
@[simp] theorem State.answered_txbuf (r : Bytes) (s : State) : (s.answered r).txbuf = s.txbuf := rfl
@[simp] theorem State.answered_rxbuf (r : Bytes) (s : State) : (s.answered r).rxbuf = s.rxbuf := rfl
@[simp] theorem State.answered_rxtag (r : Bytes) (s : State) : (s.answered r).rxtag = s.rxtag := rfl
@[simp] theorem State.answered_escState (r : Bytes) (s : State) : (s.answered r).escState = s.escState := rfl
@[simp] theorem State.answered_pjfRxstate (r : Bytes) (s : State) : (s.answered r).pjfRxstate = s.pjfRxstate := rfl
@[simp] theorem State.answered_pjfTimer (r : Bytes) (s : State) : (s.answered r).pjfTimer = s.pjfTimer := rfl
@[simp] theorem State.answered_pjfSender (r : Bytes) (s : State) : (s.answered r).pjfSender = s.pjfSender := rfl
@[simp] theorem State.answered_pjfHdr (r : Bytes) (s : State) : (s.answered r).pjfHdr = s.pjfHdr := rfl
@[simp] theorem State.answered_pjfTimeout (r : Bytes) (s : State) : (s.answered r).pjfTimeout = s.pjfTimeout := rfl
@[simp] theorem State.answered_s9Pmode (r : Bytes) (s : State) : (s.answered r).s9Pmode = s.s9Pmode := rfl
@[simp] theorem State.answered_s9Ferr (r : Bytes) (s : State) : (s.answered r).s9Ferr = s.s9Ferr := rfl
@[simp] theorem State.answered_t9State (r : Bytes) (s : State) : (s.answered r).t9State = s.t9State := rfl
@[simp] theorem State.answered_t9Timer (r : Bytes) (s : State) : (s.answered r).t9Timer = s.t9Timer := rfl
@[simp] theorem State.answered_t9Explen (r : Bytes) (s : State) : (s.answered r).t9Explen = s.t9Explen := rfl
@[simp] theorem State.answered_t9Ovf (r : Bytes) (s : State) : (s.answered r).t9Ovf = s.t9Ovf := rfl
@[simp] theorem State.answered_xchState (r : Bytes) (s : State) : (s.answered r).xchState = s.xchState := rfl
@[simp] theorem State.answered_xchOp (r : Bytes) (s : State) : (s.answered r).xchOp = s.xchOp := rfl
@[simp] theorem State.answered_xchRetries (r : Bytes) (s : State) : (s.answered r).xchRetries = s.xchRetries := rfl
@[simp] theorem State.answered_xchAttempts (r : Bytes) (s : State) : (s.answered r).xchAttempts = s.xchAttempts := rfl
@[simp] theorem State.answered_xchReq (r : Bytes) (s : State) : (s.answered r).xchReq = s.xchReq := rfl
@[simp] theorem State.answered_xchExplen (r : Bytes) (s : State) : (s.answered r).xchExplen = s.xchExplen := rfl
@[simp] theorem State.answered_xchLasterr (r : Bytes) (s : State) : (s.answered r).xchLasterr = s.xchLasterr := rfl
@[simp] theorem State.answered_xchResp (r : Bytes) (s : State) : (s.answered r).xchResp = s.xchResp := rfl
@[simp] theorem State.answered_errKind (r : Bytes) (s : State) : (s.answered r).errKind = .none := rfl
@[simp] theorem State.answered_errInfo (r : Bytes) (s : State) : (s.answered r).errInfo = 0 := rfl
@[simp] theorem State.answered_rxq (r : Bytes) (s : State) : (s.answered r).rxq = s.rxq := rfl
@[simp] theorem State.answered_rxbufValid (r : Bytes) (s : State) : (s.answered r).rxbufValid = s.rxbufValid := rfl
@[simp] theorem State.answered_pjfSenderValid (r : Bytes) (s : State) : (s.answered r).pjfSenderValid = s.pjfSenderValid := rfl
@[simp] theorem State.answered_events (r : Bytes) (s : State) : (s.answered r).events = s.events := rfl
@[simp] theorem State.answered_rsp (r : Bytes) (s : State) : (s.answered r).rsp = s.rsp ++ [r] := rfl
@[simp] theorem State.answered_lineTx (r : Bytes) (s : State) : (s.answered r).lineTx = s.lineTx := rfl

/-! `ended`: an end with an error (R386). -/

@[simp] theorem State.ended_params (k : ErrKind) (info : BitVec 16) (s : State) : (s.ended k info).params = s.params := rfl
@[simp] theorem State.ended_cfg (k : ErrKind) (info : BitVec 16) (s : State) : (s.ended k info).cfg = s.cfg := rfl
@[simp] theorem State.ended_chk16Acc (k : ErrKind) (info : BitVec 16) (s : State) : (s.ended k info).chk16Acc = s.chk16Acc := rfl
@[simp] theorem State.ended_crc8Reg (k : ErrKind) (info : BitVec 16) (s : State) : (s.ended k info).crc8Reg = s.crc8Reg := rfl
@[simp] theorem State.ended_crc32Reg (k : ErrKind) (info : BitVec 16) (s : State) : (s.ended k info).crc32Reg = s.crc32Reg := rfl
@[simp] theorem State.ended_txbuf (k : ErrKind) (info : BitVec 16) (s : State) : (s.ended k info).txbuf = s.txbuf := rfl
@[simp] theorem State.ended_rxbuf (k : ErrKind) (info : BitVec 16) (s : State) : (s.ended k info).rxbuf = s.rxbuf := rfl
@[simp] theorem State.ended_rxtag (k : ErrKind) (info : BitVec 16) (s : State) : (s.ended k info).rxtag = s.rxtag := rfl
@[simp] theorem State.ended_escState (k : ErrKind) (info : BitVec 16) (s : State) : (s.ended k info).escState = s.escState := rfl
@[simp] theorem State.ended_pjfRxstate (k : ErrKind) (info : BitVec 16) (s : State) : (s.ended k info).pjfRxstate = s.pjfRxstate := rfl
@[simp] theorem State.ended_pjfTimer (k : ErrKind) (info : BitVec 16) (s : State) : (s.ended k info).pjfTimer = s.pjfTimer := rfl
@[simp] theorem State.ended_pjfSender (k : ErrKind) (info : BitVec 16) (s : State) : (s.ended k info).pjfSender = s.pjfSender := rfl
@[simp] theorem State.ended_pjfHdr (k : ErrKind) (info : BitVec 16) (s : State) : (s.ended k info).pjfHdr = s.pjfHdr := rfl
@[simp] theorem State.ended_pjfTimeout (k : ErrKind) (info : BitVec 16) (s : State) : (s.ended k info).pjfTimeout = s.pjfTimeout := rfl
@[simp] theorem State.ended_s9Pmode (k : ErrKind) (info : BitVec 16) (s : State) : (s.ended k info).s9Pmode = s.s9Pmode := rfl
@[simp] theorem State.ended_s9Ferr (k : ErrKind) (info : BitVec 16) (s : State) : (s.ended k info).s9Ferr = s.s9Ferr := rfl
@[simp] theorem State.ended_t9State (k : ErrKind) (info : BitVec 16) (s : State) : (s.ended k info).t9State = s.t9State := rfl
@[simp] theorem State.ended_t9Timer (k : ErrKind) (info : BitVec 16) (s : State) : (s.ended k info).t9Timer = s.t9Timer := rfl
@[simp] theorem State.ended_t9Explen (k : ErrKind) (info : BitVec 16) (s : State) : (s.ended k info).t9Explen = s.t9Explen := rfl
@[simp] theorem State.ended_t9Ovf (k : ErrKind) (info : BitVec 16) (s : State) : (s.ended k info).t9Ovf = s.t9Ovf := rfl
@[simp] theorem State.ended_xchState (k : ErrKind) (info : BitVec 16) (s : State) : (s.ended k info).xchState = s.xchState := rfl
@[simp] theorem State.ended_xchOp (k : ErrKind) (info : BitVec 16) (s : State) : (s.ended k info).xchOp = s.xchOp := rfl
@[simp] theorem State.ended_xchRetries (k : ErrKind) (info : BitVec 16) (s : State) : (s.ended k info).xchRetries = s.xchRetries := rfl
@[simp] theorem State.ended_xchAttempts (k : ErrKind) (info : BitVec 16) (s : State) : (s.ended k info).xchAttempts = s.xchAttempts := rfl
@[simp] theorem State.ended_xchReq (k : ErrKind) (info : BitVec 16) (s : State) : (s.ended k info).xchReq = s.xchReq := rfl
@[simp] theorem State.ended_xchExplen (k : ErrKind) (info : BitVec 16) (s : State) : (s.ended k info).xchExplen = s.xchExplen := rfl
@[simp] theorem State.ended_xchLasterr (k : ErrKind) (info : BitVec 16) (s : State) : (s.ended k info).xchLasterr = s.xchLasterr := rfl
@[simp] theorem State.ended_xchResp (k : ErrKind) (info : BitVec 16) (s : State) : (s.ended k info).xchResp = s.xchResp := rfl
@[simp] theorem State.ended_errKind (k : ErrKind) (info : BitVec 16) (s : State) : (s.ended k info).errKind = k := rfl
@[simp] theorem State.ended_errInfo (k : ErrKind) (info : BitVec 16) (s : State) : (s.ended k info).errInfo = info := rfl
@[simp] theorem State.ended_rxq (k : ErrKind) (info : BitVec 16) (s : State) : (s.ended k info).rxq = s.rxq := rfl
@[simp] theorem State.ended_rxbufValid (k : ErrKind) (info : BitVec 16) (s : State) : (s.ended k info).rxbufValid = s.rxbufValid := rfl
@[simp] theorem State.ended_pjfSenderValid (k : ErrKind) (info : BitVec 16) (s : State) : (s.ended k info).pjfSenderValid = s.pjfSenderValid := rfl
@[simp] theorem State.ended_events (k : ErrKind) (info : BitVec 16) (s : State) : (s.ended k info).events = s.events := rfl
@[simp] theorem State.ended_rsp (k : ErrKind) (info : BitVec 16) (s : State) : (s.ended k info).rsp = s.rsp ++ [errorRsp (k.code.zeroExtend 8) info] := rfl
@[simp] theorem State.ended_lineTx (k : ErrKind) (info : BitVec 16) (s : State) : (s.ended k info).lineTx = s.lineTx := rfl

end Sys2Proof.Machine
end

