-- ==== Sys2Proof/Laws/Ops.lean ====
section
/-! SUPPORT. What the shared operations of Machine/Ops.lean and Machine/Operands.lean can do, said once: the busy test,
the checks in front of an operation, the answers, reset and the guarded reads. -/

namespace Sys2Proof.Machine

/-! The busy test (R338). -/

theorem State.inExchange_eq_false (s : State) :
    s.inExchange = false ↔ s.xchState = .idle ∨ s.xchState = .done ∨ s.xchState = .failed := by
  unfold State.inExchange
  cases h : s.xchState <;> simp

theorem State.busy_eq_false (s : State) : s.busy = false ↔ s.Idle := by
  unfold State.busy State.Idle
  rw [Bool.or_eq_false_iff, Bool.or_eq_false_iff, State.inExchange_eq_false, and_assoc]
  cases h9 : s.t9State <;> cases hp : s.pjfRxstate <;> simp

theorem State.busy_eq_true (s : State) : s.busy = true ↔ ¬ s.Idle := by
  rw [← State.busy_eq_false]; simp

theorem State.busy_of_idle {s : State} (h : s.Idle) : s.busy = false := (State.busy_eq_false s).2 h

theorem State.busy_of_not_idle {s : State} (h : ¬ s.Idle) : s.busy = true := (State.busy_eq_true s).2 h

theorem State.inExchange_of_idle {s : State} (h : s.Idle) : s.inExchange = false :=
  (State.inExchange_eq_false s).2 h.1

/-- Pending events are no part of what makes a block busy. -/
@[simp] theorem State.busy_withEvents (s : State) (es : List Event) : ({ s with events := es } : State).busy = s.busy :=
  rfl

/-- `Idle` is decided by three registers only. -/
theorem State.idle_congr {s t : State} (hx : t.xchState = s.xchState) (h9 : t.t9State = s.t9State)
    (hp : t.pjfRxstate = s.pjfRxstate) : t.Idle ↔ s.Idle := by
  unfold State.Idle; rw [hx, h9, hp]

/-! Answers (R107, R386). -/

theorem rspLength_of_lt {n : Nat} (h : n < 65536) : rspLength n = BitVec.ofNat 16 n := by simp [rspLength, h]

@[simp] theorem OpResult.rsp_value (bs : Bytes) : (OpResult.value bs).rsp = valueRsp bs := rfl
@[simp] theorem OpResult.rsp_void : OpResult.void.rsp = voidRsp := by decide
@[simp] theorem OpResult.rsp_noValue : OpResult.noValue.rsp = noneRsp := by decide
@[simp] theorem OpResult.rsp_err (k : ErrKind) (info : BitVec 16) :
    (OpResult.err k info).rsp = errorRsp (k.code.zeroExtend 8) info := by
  have h : rspLength ([] : Bytes).length = 0 := by decide
  simp only [OpResult.rsp, rspBytes, h, errorRsp, be16]
  rfl

@[simp] theorem State.answer_value (bs : Bytes) (s : State) : s.answer (.value bs) = s.answered (valueRsp bs) := rfl
@[simp] theorem State.answer_void (s : State) : s.answer .void = s.answered voidRsp := by
  simp only [State.answer, OpResult.rsp_void]; rfl
@[simp] theorem State.answer_noValue (s : State) : s.answer .noValue = s.answered noneRsp := by
  simp only [State.answer, OpResult.rsp_noValue]; rfl

/-- An uncaught error outside an exchange. -/
theorem State.answer_err {s : State} (h : s.inExchange = false) (k : ErrKind) (info : BitVec 16) :
    s.answer (.err k info) = s.ended k info := by
  simp only [State.answer, OpResult.rsp_err, State.raise, h, State.pushRsp, State.ended]
  rfl

/-- Everything an answer can do: one byte string is sent, and the error registers and `XCH.LASTERR` may change. -/
theorem State.answer_frame (r : OpResult) (s : State) :
    ∃ (k : ErrKind) (info : BitVec 16) (l : Option (ErrKind × BitVec 16)),
      s.answer r = { s with errKind := k, errInfo := info, xchLasterr := l, rsp := s.rsp ++ [r.rsp] } := by
  cases r <;> exact ⟨_, _, _, rfl⟩

/-! The checks in front of an operation (R384). -/

theorem State.whenIdle_of_idle {s : State} (h : s.Idle) (run : State → State) : s.whenIdle run = .next (run s) := by
  simp [State.whenIdle, State.busy_of_idle h]

theorem State.refuse_of_idle {s : State} (h : s.Idle) (k : ErrKind) (info : BitVec 16) :
    s.refuse k info = s.ended k info := by
  simp only [State.refuse, State.busy_of_idle h, OpResult.rsp_err]
  rfl

theorem State.refuse_of_busy {s : State} (h : ¬ s.Idle) (k : ErrKind) (info : BitVec 16) :
    s.refuse k info = { s with rsp := s.rsp ++ [errorRsp (k.code.zeroExtend 8) info] } := by
  simp only [State.refuse, State.busy_of_not_idle h, OpResult.rsp_err, if_true]
  rfl

theorem State.whenIdle_of_busy {s : State} (h : ¬ s.Idle) (run : State → State) :
    s.whenIdle run = .next (s.refuse .busy (s.xchState.code.zeroExtend 16)) := by
  simp [State.whenIdle, State.busy_of_not_idle h]

/-- `whenIdle` always answers a next state: the refusal, or the operation run on an idle block. -/
theorem State.whenIdle_cases (s : State) (run : State → State) :
    (¬ s.Idle ∧ s.whenIdle run = .next (s.refuse .busy (s.xchState.code.zeroExtend 16))) ∨
      (s.Idle ∧ s.whenIdle run = .next (run s)) := by
  by_cases h : s.Idle
  · exact .inr ⟨h, State.whenIdle_of_idle h run⟩
  · exact .inl ⟨h, State.whenIdle_of_busy h run⟩

@[simp] theorem State.whenLegal_true (run : State → State) (s : State) : s.whenLegal true run = run s := rfl
@[simp] theorem State.whenLegal_false (run : State → State) (s : State) :
    s.whenLegal false run = s.refuse .illegalOperand 0 := rfl

/-! The operand limits. -/

theorem State.stringLegal_iff (bs : Bytes) (s : State) : s.stringLegal bs = true ↔ bs.length ≤ s.params.maxbuf := by
  simp [State.stringLegal]

theorem State.t9DataLegal_iff (d : Bytes) (s : State) :
    s.t9DataLegal d = true ↔ d ≠ [] ∧ d.length + 2 ≤ s.params.maxbuf := by
  simp [State.t9DataLegal]

theorem pjonPayloadLegal_iff (p : Bytes) : pjonPayloadLegal p = true ↔ p.length ≤ 246 := by
  unfold pjonPayloadLegal Config.pjonMaxPayload
  exact decide_eq_true_iff

theorem timeoutLegal_iff (t : BitVec 32) : timeoutLegal t = true ↔ t ≠ 0 := by simp [timeoutLegal]

theorem packetTypeLegal_iff (ty : Byte) : packetTypeLegal ty = true ↔ ty.toNat ∈ [2, 3, 4, 22] := by
  simp only [packetTypeLegal, Config.typeRead, Config.typeWrite, Config.typeStatus, Config.typeLog, Bool.or_eq_true,
    beq_iff_eq, ← BitVec.toNat_inj, List.mem_cons, List.not_mem_nil, or_false, or_assoc]
  rfl

theorem packetLegal_iff (port ty : Byte) :
    packetLegal port ty = true ↔ port.toNat ≤ 9 ∧ ty.toNat ∈ [2, 3, 4, 22] := by
  unfold packetLegal Config.portMax
  rw [Bool.and_eq_true, packetTypeLegal_iff, decide_eq_true_iff]

theorem trimLength_le (e : Option (BitVec 16)) (n : Nat) : trimLength e n ≤ n := by
  cases e <;> simp [trimLength]

theorem State.rxFull_iff (s : State) : s.rxFull = true ↔ s.params.maxbuf ≤ s.rxbuf.length := by simp [State.rxFull]

theorem Params.legal_iff (p : Params) :
    p.legal = true ↔ p.eopIdleTicks ≠ 0 ∧ p.rxTimeoutTicks ≠ 0 ∧ 255 ≤ p.maxbuf := by
  simp [Params.legal, and_assoc]

/-! Reset (R420). -/

theorem State.resetWith_eq (p : Params) (s : State) :
    s.resetWith p = { State.ofParams p with events := s.events, rsp := s.rsp, lineTx := s.lineTx } := rfl

theorem State.ofParams_idle (p : Params) : (State.ofParams p).Idle := ⟨.inl rfl, rfl, rfl⟩

theorem State.resetWith_idle (p : Params) (s : State) : (s.resetWith p).Idle := ⟨.inl rfl, rfl, rfl⟩

end Sys2Proof.Machine
end

