-- ==== Sys2Proof/Laws/Checks.lean ====
section
/-! SUPPORT. The check engines: how their functions run over a sequence, and everything `CHK16.VAL` can do. -/

namespace Sys2Proof.Machine

@[simp] theorem chk16_nil : chk16 [] = 0 := rfl

theorem chk16_append (d e : Bytes) : chk16 (d ++ e) = e.foldl chk16Upd (chk16 d) := by
  simp [chk16, List.foldl_append]

theorem chk16_concat (d : Bytes) (b : Byte) : chk16 (d ++ [b]) = chk16Upd (chk16 d) b := by
  simp [chk16_append]

/-- `upd` of an accumulator in range is the sum reduced by the modulus (R132). -/
theorem chk16Upd_toNat {acc : BitVec 16} (h : acc.toNat ≤ 65534) (b : Byte) :
    (chk16Upd acc b).toNat = (acc.toNat + b.toNat) % 65535 := by
  have hb := b.isLt
  have ht : (BitVec.zeroExtend 17 acc + BitVec.zeroExtend 17 b).toNat = acc.toNat + b.toNat := by
    simp only [BitVec.toNat_add, BitVec.toNat_setWidth]; omega
  simp only [chk16Upd, Config.chk16Mod, ht]
  split
  · next hc =>
    simp only [BitVec.truncate, BitVec.toNat_setWidth, BitVec.toNat_sub, ht, BitVec.toNat_ofNat]
    omega
  · simp only [BitVec.truncate, BitVec.toNat_setWidth, ht]
    omega

theorem chk16Upd_le {acc : BitVec 16} (h : acc.toNat ≤ 65534) (b : Byte) : (chk16Upd acc b).toNat ≤ 65534 := by
  rw [chk16Upd_toNat h]; omega

theorem foldl_chk16Upd_le (d : Bytes) : ∀ {acc : BitVec 16}, acc.toNat ≤ 65534 → (d.foldl chk16Upd acc).toNat ≤ 65534 := by
  induction d with
  | nil => intro acc h; exact h
  | cons b d ih => intro acc h; exact ih (chk16Upd_le h b)

theorem chk16_le (d : Bytes) : (chk16 d).toNat ≤ 65534 := foldl_chk16Upd_le d (by decide)

/-- Everything `CHK16.VAL` can do (R140). -/
theorem chk16Validate_cases (f : Bytes) (s : State) :
    (f.length < 3 ∧ chk16Validate f s = (s, .err .frameTooShort (info16 f.length))) ∨
      (3 ≤ f.length ∧ chk16 (f.take (f.length - 2)) = u16be (f.getD (f.length - 2) 0) (f.getD (f.length - 1) 0) ∧
        chk16Validate f s =
          ({ s with chk16Acc := chk16 (f.take (f.length - 2)) }, .value (f.take (f.length - 2)))) ∨
      (3 ≤ f.length ∧ chk16 (f.take (f.length - 2)) ≠ u16be (f.getD (f.length - 2) 0) (f.getD (f.length - 1) 0) ∧
        chk16Validate f s =
          ({ s with chk16Acc := chk16 (f.take (f.length - 2)) },
            .err .checksumMismatch (chk16 (f.take (f.length - 2))))) := by
  by_cases h : f.length < 3
  · exact .inl ⟨h, by simp [chk16Validate, Config.ser9MinFrame, h]⟩
  · have h3 : 3 ≤ f.length := by omega
    by_cases hc : chk16 (f.take (f.length - 2)) = u16be (f.getD (f.length - 2) 0) (f.getD (f.length - 1) 0)
    · exact .inr (.inl ⟨h3, hc, by simp only [chk16Validate, Config.ser9MinFrame, h, if_false, hc, if_true]⟩)
    · exact .inr (.inr ⟨h3, hc, by simp only [chk16Validate, Config.ser9MinFrame, h, if_false, hc]⟩)

/-- `CHK16.VAL` on data and two check bytes (R140). -/
theorem chk16Validate_trailer {d : Bytes} (hd : d ≠ []) (hi lo : Byte) (s : State) :
    chk16Validate (d ++ [hi, lo]) s =
      ({ s with chk16Acc := chk16 d },
        if chk16 d = u16be hi lo then .value d else .err .checksumMismatch (chk16 d)) := by
  have hl : ¬ (d ++ [hi, lo]).length < 3 := by
    have := List.length_pos_iff.2 hd
    simp; omega
  have ht : (d ++ [hi, lo]).take ((d ++ [hi, lo]).length - 2) = d := by simp
  have h0 : (d ++ [hi, lo]).getD ((d ++ [hi, lo]).length - 2) 0 = hi := by simp
  have h1 : (d ++ [hi, lo]).getD ((d ++ [hi, lo]).length - 1) 0 = lo := by
    simp
  simp only [chk16Validate, Config.ser9MinFrame, hl, if_false, ht, h0, h1]
  split <;> rfl

/-- Validation never writes anything but `CHK16.ACC`, and its result is data or an error, never data longer than the
input. -/
theorem chk16Validate_frame (f : Bytes) (s : State) :
    ∃ acc : BitVec 16, (acc = s.chk16Acc ∨ acc.toNat ≤ 65534) ∧
      (chk16Validate f s).1 = { s with chk16Acc := acc } ∧
      ((∃ d : Bytes, d.length ≤ f.length ∧ (chk16Validate f s).2 = .value d) ∨
        ∃ k info, k ≠ .none ∧ (chk16Validate f s).2 = .err k info) := by
  rcases chk16Validate_cases f s with ⟨_, e⟩ | ⟨_, _, e⟩ | ⟨_, _, e⟩ <;> rw [e]
  · exact ⟨_, .inl rfl, rfl, .inr ⟨_, _, by decide, rfl⟩⟩
  · exact ⟨_, .inr (chk16_le _), rfl, .inl ⟨_, by simp, rfl⟩⟩
  · exact ⟨_, .inr (chk16_le _), rfl, .inr ⟨_, _, by decide, rfl⟩⟩

@[simp] theorem crc8_nil : crc8 [] = 0 := rfl

theorem crc8_append (m n : Bytes) : crc8 (m ++ n) = n.foldl roll8 (crc8 m) := by simp [crc8, List.foldl_append]

theorem crc8_concat (m : Bytes) (b : Byte) : crc8 (m ++ [b]) = roll8 (crc8 m) b := by simp [crc8_append]

theorem crc32Raw_append (m n : Bytes) : crc32Raw (m ++ n) = n.foldl upd32 (crc32Raw m) := by
  simp [crc32Raw, List.foldl_append]

theorem crc32Raw_eq (m : Bytes) : crc32Raw m = crc32 m ^^^ 0xFFFFFFFF := by
  simp only [crc32, crc32Result, Config.crc32Xorout, BitVec.xor_assoc, BitVec.xor_self, BitVec.xor_zero]

@[simp] theorem crc32Result_crc32Raw (m : Bytes) : crc32Result (crc32Raw m) = crc32 m := rfl

end Sys2Proof.Machine
end

