-- ==== Sys2Proof/Laws/Esc.lean ====
section
/-! SUPPORT. The escape codec and the deframer: how `escape` runs over a sequence, and everything one deframer step can
do. -/

namespace Sys2Proof.Machine

@[simp] theorem escape_nil : escape [] = [] := rfl
@[simp] theorem escape_cons (b : Byte) (f : Bytes) : escape (b :: f) = escapeByte b ++ escape f := rfl

theorem escape_append (f g : Bytes) : escape (f ++ g) = escape f ++ escape g := by simp [escape]

theorem isDelimiter_iff (b : Byte) : isDelimiter b = true ↔ b = 0x95 ∨ b = 0xEA := by
  simp only [isDelimiter, Bool.or_eq_true, beq_iff_eq, Config.startByte, Config.endByte]

theorem isSpecial_iff (b : Byte) : isSpecial b = true ↔ b = 0x95 ∨ b = 0xEA ∨ b = 0xBB := by
  simp only [isSpecial, Bool.or_eq_true, isDelimiter_iff, beq_iff_eq, Config.escByte, or_assoc]

/-- The image of a byte: itself, or the pair that stands for it (R181). -/
theorem escapeByte_cases (b : Byte) :
    (b ≠ 0x95 ∧ b ≠ 0xEA ∧ b ≠ 0xBB ∧ escapeByte b = [b]) ∨ (b = 0x95 ∧ escapeByte b = [0xBB, 0x2E]) ∨
      (b = 0xEA ∧ escapeByte b = [0xBB, 0x51]) ∨ (b = 0xBB ∧ escapeByte b = [0xBB, 0x00]) := by
  by_cases h1 : b = 0x95
  · exact .inr (.inl ⟨h1, by rw [h1]; decide⟩)
  by_cases h2 : b = 0xEA
  · exact .inr (.inr (.inl ⟨h2, by rw [h2]; decide⟩))
  by_cases h3 : b = 0xBB
  · exact .inr (.inr (.inr ⟨h3, by rw [h3]; decide⟩))
  refine .inl ⟨h1, h2, h3, ?_⟩
  have hs : isSpecial b = false := by
    rw [← Bool.not_eq_true, isSpecial_iff]; exact fun h => by rcases h with h | h | h <;> contradiction
  simp [escapeByte, hs]

@[simp] theorem State.rxFull_withEsc (s : State) (e : EscState) : ({ s with escState := e } : State).rxFull = s.rxFull :=
  rfl

/-- Everything `deframeStore` can do: the byte is stored, or the buffer overflows (R188). -/
theorem deframeStore_cases (d : Byte) (s : State) :
    (s.rxbuf.length < s.params.maxbuf ∧
        deframeStore d s = ({ s.appendRx false d with escState := .body }, .nothing)) ∨
      (s.params.maxbuf ≤ s.rxbuf.length ∧
        deframeStore d s = ({ s.clearRx with escState := .hunt }, .malformed (info16 s.params.maxbuf))) := by
  unfold deframeStore
  by_cases h : s.params.maxbuf ≤ s.rxbuf.length
  · exact .inr ⟨h, by simp [State.rxFull, h]⟩
  · exact .inl ⟨by omega, by simp [State.rxFull, h]⟩

/-- Everything one deframer step can do, row by row of R188's table. -/
theorem deframeByte_cases (b : Byte) (s : State) :
    (b = 0x95 ∧ deframeByte b s = ({ s.clearRx with escState := .body }, .nothing)) ∨
      (b ≠ 0x95 ∧ s.escState = .hunt ∧ deframeByte b s = (s, .nothing)) ∨
      (b = 0xEA ∧ s.escState = .body ∧ deframeByte b s = ({ s with escState := .hunt }, .frame s.rxbuf)) ∨
      (b = 0xBB ∧ s.escState = .body ∧ deframeByte b s = ({ s with escState := .escaped }, .nothing)) ∨
      (b ≠ 0x95 ∧ b ≠ 0xEA ∧ b ≠ 0xBB ∧ s.escState = .body ∧ deframeByte b s = deframeStore b s) ∨
      (b = 0xEA ∧ s.escState = .escaped ∧
        deframeByte b s = ({ s.clearRx with escState := .hunt }, .malformed (info16 s.rxbuf.length))) ∨
      (b ≠ 0x95 ∧ b ≠ 0xEA ∧ s.escState = .escaped ∧ deframeByte b s = deframeStore (b ^^^ 0xBB) s) := by
  unfold deframeByte Config.startByte Config.endByte Config.escByte
  by_cases h0 : b = 0x95
  · exact .inl ⟨h0, by rw [if_pos h0]⟩
  rw [if_neg h0]
  cases he : s.escState
  · exact .inr (.inl ⟨h0, rfl, rfl⟩)
  · by_cases h1 : b = 0xEA
    · exact .inr (.inr (.inl ⟨h1, rfl, if_pos h1⟩))
    by_cases h2 : b = 0xBB
    · exact .inr (.inr (.inr (.inl ⟨h2, rfl, by simp [h2]⟩)))
    · exact .inr (.inr (.inr (.inr (.inl ⟨h0, h1, h2, rfl, by simp only [if_neg h1, if_neg h2]⟩))))
  · by_cases h1 : b = 0xEA
    · exact .inr (.inr (.inr (.inr (.inr (.inl ⟨h1, rfl, if_pos h1⟩)))))
    · exact .inr (.inr (.inr (.inr (.inr (.inr ⟨h0, h1, rfl, if_neg h1⟩)))))

/-- What a deframer step leaves alone, and how far its buffers can grow: only `ESC.STATE`, `RXBUF`, `RXTAG` and the
validity bit change; the bounds on the buffers are kept; a complete frame is what `RXBUF` held. -/
theorem deframeByte_frame (b : Byte) (s : State) :
    ∃ (e : EscState) (rx : Bytes) (tag : List Bool) (v : Bool),
      (deframeByte b s).1 = { s with escState := e, rxbuf := rx, rxtag := tag, rxbufValid := v } ∧
      (s.rxbuf.length ≤ s.params.maxbuf → rx.length ≤ s.params.maxbuf) ∧
      (s.rxtag.length = s.rxbuf.length → tag.length = rx.length) ∧
      (∀ f, (deframeByte b s).2 = .frame f → f = s.rxbuf ∧ rx = s.rxbuf) := by
  have store : ∀ d, ∃ (e : EscState) (rx : Bytes) (tag : List Bool) (v : Bool),
      (deframeStore d s).1 = { s with escState := e, rxbuf := rx, rxtag := tag, rxbufValid := v } ∧
      (s.rxbuf.length ≤ s.params.maxbuf → rx.length ≤ s.params.maxbuf) ∧
      (s.rxtag.length = s.rxbuf.length → tag.length = rx.length) ∧
      (∀ f, (deframeStore d s).2 = .frame f → f = s.rxbuf ∧ rx = s.rxbuf) := by
    intro d
    rcases deframeStore_cases d s with ⟨h, e⟩ | ⟨_, e⟩ <;> rw [e]
    · exact ⟨_, _, _, _, rfl, fun _ => by simp; omega, fun ht => by simp [ht], fun f hf => by cases hf⟩
    · exact ⟨_, _, _, _, rfl, fun _ => by simp, fun _ => rfl, fun f hf => by cases hf⟩
  rcases deframeByte_cases b s with ⟨_, e⟩ | ⟨_, _, e⟩ | ⟨_, _, e⟩ | ⟨_, _, e⟩ | ⟨_, _, _, _, e⟩ | ⟨_, _, e⟩ | ⟨_, _, _, e⟩ <;>
    rw [e]
  · exact ⟨_, _, _, _, rfl, fun _ => by simp, fun _ => rfl, fun f hf => by cases hf⟩
  · exact ⟨_, _, _, _, rfl, id, id, fun f hf => by cases hf⟩
  · exact ⟨_, _, _, _, rfl, id, id, fun f hf => by cases hf; exact ⟨rfl, rfl⟩⟩
  · exact ⟨_, _, _, _, rfl, id, id, fun f hf => by cases hf⟩
  · exact store b
  · exact ⟨_, _, _, _, rfl, fun _ => by simp, fun _ => rfl, fun f hf => by cases hf⟩
  · exact store _

end Sys2Proof.Machine
end

