-- ==== Sys2Proof/Laws/Pjf.lean ====
section
/-! SUPPORT. PJON: the shape of a frame, and everything a build, a parse, a received byte, the start and a tick of a
receive can do. -/

namespace Sys2Proof.Machine

theorem pjonUsesCrc32_iff (p : Bytes) : pjonUsesCrc32 p = true ↔ 10 ≤ p.length := by
  unfold pjonUsesCrc32 Config.crc32Threshold
  exact decide_eq_true_iff.trans (by omega)

theorem pjonHead_length (target : Byte) (p : Bytes) : (pjonHead target p).length = 3 := by
  unfold pjonHead; split <;> rfl

theorem pjonBody_length (target sender : Byte) (p : Bytes) : (pjonBody target sender p).length = p.length + 5 := by
  simp [pjonBody, pjonHead_length]; omega

/-- The length of a frame: 6 or 9 more than the payload's (R201, R202). -/
theorem pjonFrame_length (target sender : Byte) (p : Bytes) :
    (pjonFrame target sender p).length = if p.length ≤ 9 then p.length + 6 else p.length + 9 := by
  have hl := pjonBody_length target sender p
  by_cases h : p.length ≤ 9
  · have hc : pjonUsesCrc32 p = false := by rw [← Bool.not_eq_true, pjonUsesCrc32_iff]; omega
    simp [pjonFrame, hc, hl, h]
  · have hc : pjonUsesCrc32 p = true := by rw [pjonUsesCrc32_iff]; omega
    simp [pjonFrame, hc, hl, h, be32]

theorem pjonFrame_length_le {p : Bytes} (h : p.length ≤ 246) (target sender : Byte) :
    (pjonFrame target sender p).length ≤ 255 := by
  rw [pjonFrame_length]; split <;> omega

/-- Everything `PJON.BUILD` does for a legal payload (R203). -/
theorem pjonBuildFrame_eq (p : Bytes) (s : State) :
    pjonBuildFrame p s = { s with
      txbuf := pjonFrame s.cfg.targetId s.cfg.deviceId p
      crc8Reg := if pjonUsesCrc32 p then crc8 (pjonHead s.cfg.targetId p)
        else crc8 (pjonBody s.cfg.targetId s.cfg.deviceId p)
      crc32Reg := if pjonUsesCrc32 p then crc32Raw (pjonBody s.cfg.targetId s.cfg.deviceId p) else s.crc32Reg } := by
  unfold pjonBuildFrame
  cases pjonUsesCrc32 p <;> rfl

/-- Everything `PJON.SEND` does for a legal payload (R205). -/
theorem pjonSendFrame_eq (p : Bytes) (s : State) :
    pjonSendFrame p s = { pjonBuildFrame p s with
      lineTx := s.lineTx ++ (sfspWrap (pjonFrame s.cfg.targetId s.cfg.deviceId p)).map .byteOut } := by
  unfold pjonSendFrame
  rw [pjonBuildFrame_eq]
  rfl

theorem hdrRefused_iff (hdr : Byte) : hdrRefused hdr = false ↔ hdr = 0x02 ∨ hdr = 0x22 := by
  revert hdr; decide

/-- Everything the last check of a parse can do (R213). -/
theorem pjonTakePayload_cases (f : Bytes) (k : Nat) (s : State) :
    (∃ p : Bytes, p = (f.take (f.length - k)).drop 5 ∧ ¬ (p.length = 1 ∧ p.getD 0 0 ≠ 0) ∧
        pjonTakePayload f k s = ({ s with pjfSender := f.getD 4 0, pjfSenderValid := true }, .value p)) ∨
      (∃ b : Byte, b ≠ 0 ∧ (f.take (f.length - k)).drop 5 = [b] ∧
        pjonTakePayload f k s =
          ({ s with pjfSender := f.getD 4 0, pjfSenderValid := false }, .err .remoteError (b.zeroExtend 16))) := by
  unfold pjonTakePayload
  by_cases h : ((f.take (f.length - k)).drop 5).length = 1 ∧ ((f.take (f.length - k)).drop 5).getD 0 0 ≠ 0
  · obtain ⟨b, hb⟩ := List.length_eq_one_iff.1 h.1
    have hz : b ≠ 0 := by have h2 := h.2; rw [hb] at h2; exact h2
    exact .inr ⟨b, hz, hb, by rw [hb]; exact if_pos ⟨rfl, hz⟩⟩
  · exact .inl ⟨_, rfl, h, if_neg h⟩

/-- Everything the last two checks of a parse can do (R212, R213). -/
theorem pjonParsePayload_frame (f : Bytes) (s : State) :
    ∃ (c8 : Byte) (c32 : BitVec 32) (snd : Byte) (v : Bool),
      (pjonParsePayload f s).1 = { s with crc8Reg := c8, crc32Reg := c32, pjfSender := snd, pjfSenderValid := v } ∧
      ((∃ p : Bytes, p.length ≤ f.length ∧ (pjonParsePayload f s).2 = .value p) ∨
        ∃ k info, k ≠ .none ∧ (pjonParsePayload f s).2 = .err k info) := by
  have hp : ∀ n, ((f.take n).drop 5).length ≤ f.length := fun n => by simp
  unfold pjonParsePayload
  dsimp only
  split <;> split
  · exact ⟨_, _, _, _, rfl, .inr ⟨_, _, by decide, rfl⟩⟩
  · rcases pjonTakePayload_cases f 4 { s with crc32Reg := crc32Raw (f.take (f.length - 4)) } with
      ⟨p, rfl, _, e⟩ | ⟨b, _, _, e⟩ <;> rw [e]
    · exact ⟨_, _, _, _, rfl, .inl ⟨_, hp _, rfl⟩⟩
    · exact ⟨_, _, _, _, rfl, .inr ⟨_, _, by decide, rfl⟩⟩
  · exact ⟨_, _, _, _, rfl, .inr ⟨_, _, by decide, rfl⟩⟩
  · rcases pjonTakePayload_cases f 1 { s with crc8Reg := crc8 (f.take (f.length - 1)) } with
      ⟨p, rfl, _, e⟩ | ⟨b, _, _, e⟩ <;> rw [e]
    · exact ⟨_, _, _, _, rfl, .inl ⟨_, hp _, rfl⟩⟩
    · exact ⟨_, _, _, _, rfl, .inr ⟨_, _, by decide, rfl⟩⟩

/-- Everything a parse can do (R207): its checks in their order, each with the registers written before it. -/
theorem pjonParse_cases (f : Bytes) (s : State) :
    (f.length < 6 ∧ pjonParse f s = (s, .err .frameTooShort (info16 f.length))) ∨
    (6 ≤ f.length ∧ (f.getD 0 0 ≠ s.cfg.deviceId ∧ f.getD 0 0 ≠ 0x00) ∧
      pjonParse f s = ({ s with pjfHdr := f.getD 1 0 }, .err .notAddressedToUs ((f.getD 0 0).zeroExtend 16))) ∨
    (6 ≤ f.length ∧ ¬ (f.getD 0 0 ≠ s.cfg.deviceId ∧ f.getD 0 0 ≠ 0x00) ∧ hdrRefused (f.getD 1 0) = true ∧
      pjonParse f s = ({ s with pjfHdr := f.getD 1 0 }, .err .unsupportedHeaderBit ((f.getD 1 0).zeroExtend 16))) ∨
    (6 ≤ f.length ∧ ¬ (f.getD 0 0 ≠ s.cfg.deviceId ∧ f.getD 0 0 ≠ 0x00) ∧ hdrRefused (f.getD 1 0) = false ∧
      ((crc8 (f.take 3) ≠ f.getD 3 0 ∧
        pjonParse f s = ({ s with pjfHdr := f.getD 1 0, crc8Reg := crc8 (f.take 3) },
          .err .headerCrcMismatch ((crc8 (f.take 3)).zeroExtend 16))) ∨
      (crc8 (f.take 3) = f.getD 3 0 ∧ (f.getD 2 0).toNat ≠ f.length ∧
        pjonParse f s = ({ s with pjfHdr := f.getD 1 0, crc8Reg := crc8 (f.take 3) },
          .err .lengthMismatch (info16 f.length))) ∨
      (crc8 (f.take 3) = f.getD 3 0 ∧ (f.getD 2 0).toNat = f.length ∧
        hdrSelectsCrc32 (f.getD 1 0) = false ∧ 15 < f.length ∧
        pjonParse f s = ({ s with pjfHdr := f.getD 1 0, crc8Reg := crc8 (f.take 3) },
          .err .unsupportedHeaderBit ((f.getD 1 0).zeroExtend 16))) ∨
      (crc8 (f.take 3) = f.getD 3 0 ∧ (f.getD 2 0).toNat = f.length ∧
        hdrSelectsCrc32 (f.getD 1 0) = true ∧ f.length < 9 ∧
        pjonParse f s = ({ s with pjfHdr := f.getD 1 0, crc8Reg := crc8 (f.take 3) },
          .err .frameTooShort (info16 f.length))) ∨
      (crc8 (f.take 3) = f.getD 3 0 ∧ (f.getD 2 0).toNat = f.length ∧
        (hdrSelectsCrc32 (f.getD 1 0) = false → f.length ≤ 15) ∧
        (hdrSelectsCrc32 (f.getD 1 0) = true → 9 ≤ f.length) ∧
        pjonParse f s = pjonParsePayload f { s with pjfHdr := f.getD 1 0, crc8Reg := crc8 (f.take 3) }))) := by
  by_cases h1 : f.length < 6
  · exact .inl ⟨h1, if_pos h1⟩
  have h6 : 6 ≤ f.length := by omega
  by_cases h2 : f.getD 0 0 ≠ s.cfg.deviceId ∧ f.getD 0 0 ≠ 0x00
  · exact .inr (.inl ⟨h6, h2, (if_neg h1).trans (if_pos h2)⟩)
  by_cases h3 : hdrRefused (f.getD 1 0) = true
  · exact .inr (.inr (.inl ⟨h6, h2, h3, (if_neg h1).trans ((if_neg h2).trans (if_pos h3))⟩))
  refine .inr (.inr (.inr ⟨h6, h2, Bool.not_eq_true _ ▸ h3, ?_⟩))
  by_cases h4 : crc8 (f.take 3) ≠ f.getD 3 0
  · exact .inl ⟨h4, (if_neg h1).trans ((if_neg h2).trans ((if_neg h3).trans (if_pos h4)))⟩
  have e4 := not_not.1 h4
  by_cases h5 : (f.getD 2 0).toNat ≠ f.length
  · exact .inr (.inl ⟨e4, h5,
      (if_neg h1).trans ((if_neg h2).trans ((if_neg h3).trans ((if_neg h4).trans (if_pos h5))))⟩)
  have e5 := not_not.1 h5
  by_cases h7 : (!hdrSelectsCrc32 (f.getD 1 0) && decide (Config.crc32Threshold < f.length)) = true
  · have h7' := h7
    rw [Bool.and_eq_true, Bool.not_eq_true', decide_eq_true_iff] at h7'
    exact .inr (.inr (.inl ⟨e4, e5, h7'.1, h7'.2,
      (if_neg h1).trans ((if_neg h2).trans ((if_neg h3).trans ((if_neg h4).trans ((if_neg h5).trans (if_pos h7)))))⟩))
  by_cases h8 : (hdrSelectsCrc32 (f.getD 1 0) && decide (f.length < 9)) = true
  · have h8' := h8
    rw [Bool.and_eq_true, decide_eq_true_iff] at h8'
    exact .inr (.inr (.inr (.inl ⟨e4, e5, h8'.1, h8'.2, (if_neg h1).trans ((if_neg h2).trans ((if_neg h3).trans
      ((if_neg h4).trans ((if_neg h5).trans ((if_neg h7).trans (if_pos h8))))))⟩)))
  · refine .inr (.inr (.inr (.inr ⟨e4, e5, fun hs => ?_, fun hs => ?_, (if_neg h1).trans ((if_neg h2).trans
      ((if_neg h3).trans ((if_neg h4).trans ((if_neg h5).trans ((if_neg h7).trans (if_neg h8))))))⟩)))
    · rw [hs, Bool.not_false, Bool.true_and, decide_eq_true_iff] at h7
      exact Nat.le_of_not_lt h7
    · rw [hs, Bool.true_and, decide_eq_true_iff] at h8
      exact Nat.le_of_not_lt h8

/-- What a parse leaves alone, whatever its verdict: it writes the check registers, `PJF.HDR`, `PJF.SENDER` and the
validity bit, and its result is a payload no longer than the frame or an error. -/
theorem pjonParse_frame (f : Bytes) (s : State) :
    ∃ (hdr c8 : Byte) (c32 : BitVec 32) (snd : Byte) (v : Bool),
      (pjonParse f s).1 =
        { s with pjfHdr := hdr, crc8Reg := c8, crc32Reg := c32, pjfSender := snd, pjfSenderValid := v } ∧
      ((∃ p : Bytes, p.length ≤ f.length ∧ (pjonParse f s).2 = .value p) ∨
        ∃ k info, k ≠ .none ∧ (pjonParse f s).2 = .err k info) := by
  rcases pjonParse_cases f s with ⟨_, e⟩ | ⟨_, _, e⟩ | ⟨_, _, _, e⟩ | ⟨_, _, _, ⟨_, e⟩ | ⟨_, _, e⟩ | ⟨_, _, _, _, e⟩ |
    ⟨_, _, _, _, e⟩ | ⟨_, _, _, _, e⟩⟩ <;> rw [e]
  iterate 7 exact ⟨_, _, _, _, _, rfl, .inr ⟨_, _, by decide, rfl⟩⟩
  obtain ⟨c8, c32, snd, v, h1, h2⟩ := pjonParsePayload_frame f
    { s with pjfHdr := f.getD 1 0, crc8Reg := crc8 (f.take 3) }
  exact ⟨_, _, _, _, _, h1, h2⟩

/-- What a receive makes of the verdict of a parse (R214). -/
theorem pjfEnd_cases (s : State) (r : OpResult) :
    (∃ info, r = .err .notAddressedToUs info ∧ pjfEnd (s, r) = (s.raise .notAddressedToUs info, .noValue)) ∨
      (∃ k info, k ≠ .notAddressedToUs ∧ r = .err k info ∧ pjfEnd (s, r) = (s.raise k info, .err k info)) ∨
      ((∀ k info, r ≠ .err k info) ∧ pjfEnd (s, r) = ({ s with rxbufValid := true }, r)) := by
  cases r with
  | err k info =>
    by_cases h : k = .notAddressedToUs
    · subst h; exact .inl ⟨info, rfl, rfl⟩
    · refine .inr (.inl ⟨k, info, h, rfl, ?_⟩)
      cases k <;> first | contradiction | rfl
  | value bs => exact .inr (.inr ⟨fun _ _ h => (by cases h), rfl⟩)
  | noValue => exact .inr (.inr ⟨fun _ _ h => (by cases h), rfl⟩)
  | void => exact .inr (.inr ⟨fun _ _ h => (by cases h), rfl⟩)

/-- Everything a byte can do to a running receive (R214): it goes on, or it ends with a malformed or a complete frame. -/
theorem pjfByte_cases (b : Byte) (s : State) :
    ((deframeByte b { s with pjfTimer := s.pjfTimeout }).2 = .nothing ∧
        pjfByte b s = ((deframeByte b { s with pjfTimer := s.pjfTimeout }).1, none)) ∨
      (∃ info, (deframeByte b { s with pjfTimer := s.pjfTimeout }).2 = .malformed info ∧
        pjfByte b s =
          (({ (deframeByte b { s with pjfTimer := s.pjfTimeout }).1 with pjfRxstate := .off } : State).raise
            .malformedFrame info, some (.err .malformedFrame info))) ∨
      (∃ f, (deframeByte b { s with pjfTimer := s.pjfTimeout }).2 = .frame f ∧
        pjfByte b s =
          ((pjfEnd (pjonParse f { (deframeByte b { s with pjfTimer := s.pjfTimeout }).1 with pjfRxstate := .off })).1,
            some (pjfEnd (pjonParse f
              { (deframeByte b { s with pjfTimer := s.pjfTimeout }).1 with pjfRxstate := .off })).2)) := by
  unfold pjfByte
  rcases h : deframeByte b { s with pjfTimer := s.pjfTimeout } with ⟨t, r⟩
  cases r with
  | nothing => exact .inl ⟨rfl, rfl⟩
  | malformed info => exact .inr (.inl ⟨info, rfl, rfl⟩)
  | frame f => exact .inr (.inr ⟨f, rfl, rfl⟩)

@[simp] theorem pjfDrain_nil (kept : List RxItem) (s : State) : pjfDrain kept [] s = ({ s with rxq := kept }, none) := rfl

@[simp] theorem pjfDrain_char (kept rest : List RxItem) (c : BitVec 11) (s : State) :
    pjfDrain kept (.char c :: rest) s = pjfDrain (kept ++ [.char c]) rest s := rfl

theorem pjfDrain_byte (kept rest : List RxItem) (b : Byte) (s : State) :
    pjfDrain kept (.byte b :: rest) s = match (pjfByte b s).2 with
      | none => pjfDrain kept rest (pjfByte b s).1
      | some r => ({ (pjfByte b s).1 with rxq := kept ++ rest }, some r) := by
  rw [pjfDrain]
  rcases pjfByte b s with ⟨t, _ | r⟩ <;> rfl

/-- The start of a receive with nothing waiting (R214). -/
theorem pjfStart_of_empty {s : State} (h : s.rxq = []) (t : BitVec 32) :
    pjfStart t s = ({ s with
      pjfRxstate := .listen, pjfTimer := t, pjfTimeout := t, escState := .hunt
      rxbuf := [], rxtag := [], rxbufValid := false }, none) := by
  unfold pjfStart
  rw [h, pjfDrain_nil, ← h]
  rfl

/-- Everything a tick can do to a running receive (R214). -/
theorem pjfTick_cases (s : State) :
    (s.pjfTimer - 1 ≠ 0 ∧ pjfTick s = ({ s with pjfTimer := s.pjfTimer - 1 }, none)) ∨
      (s.pjfTimer - 1 = 0 ∧ pjfTick s = ({ s with
        pjfTimer := 0, pjfRxstate := .off, escState := .hunt
        rxbuf := [], rxtag := [], rxbufValid := false }, some .noValue)) := by
  unfold pjfTick
  by_cases h : s.pjfTimer - 1 = 0
  · rw [h]; exact .inr ⟨rfl, rfl⟩
  · exact .inl ⟨h, if_neg h⟩

end Sys2Proof.Machine
end

