-- ==== Sys2Proof/Laws/T9.lean ====
section
/-! SUPPORT. The 9-bit line: everything a symbol, a frame, a received character, the start, a tick and the end of a
receive can do. -/

namespace Sys2Proof.Machine

/-- The line events of one symbol of a frame, as the block emits them (R248, R272). -/
def symbolEvents (cfg : Cfg) (sym : Bool × Byte) : List LineEvent :=
  [.pmode (selectMode cfg.spacemark sym.1 sym.2), .char (lineChar (selectMode cfg.spacemark sym.1 sym.2) sym.2), .flush]
    ++ (if cfg.spacemark then [] else [.delay cfg.interbyteDelay])

theorem s9Transmit_eq (a : Bool) (d : Byte) (s : State) :
    s9Transmit a d s = { s with
      s9Pmode := .known (selectMode s.cfg.spacemark a d)
      lineTx := s.lineTx ++ [.pmode (selectMode s.cfg.spacemark a d),
        .char (lineChar (selectMode s.cfg.spacemark a d) d), .flush] } := rfl

theorem t9SendSymbol_eq (s : State) (sym : Bool × Byte) :
    t9SendSymbol s sym = { s with
      s9Pmode := .known (selectMode s.cfg.spacemark sym.1 sym.2)
      lineTx := s.lineTx ++ symbolEvents s.cfg sym } := by
  unfold t9SendSymbol symbolEvents
  rw [s9Transmit_eq]
  cases h : s.cfg.spacemark <;> simp [State.emit, h]

/-- Sending symbols one after another: their events in order, and `S9.PMODE` left at the last one's mode. -/
theorem foldl_t9SendSymbol (syms : List (Bool × Byte)) (s : State) :
    syms.foldl t9SendSymbol s = { s with
      s9Pmode := match syms.getLast? with
        | some sym => .known (selectMode s.cfg.spacemark sym.1 sym.2)
        | none => s.s9Pmode
      lineTx := s.lineTx ++ syms.flatMap (symbolEvents s.cfg) } := by
  induction syms generalizing s with
  | nil => simp
  | cons sym syms ih =>
    rw [List.foldl_cons, t9SendSymbol_eq, ih]
    cases hl : syms.getLast? with
    | none => simp [List.getLast?_eq_none_iff.1 hl]
    | some x => simp [List.getLast?_cons, hl]

/-- Everything `T9.SEND` does for legal data (R272). -/
theorem t9SendFrame_eq (d : Bytes) (s : State) :
    t9SendFrame d s = { s with
      txbuf := t9Frame d
      chk16Acc := chk16 d
      s9Pmode := match (t9Symbols (t9Frame d)).getLast? with
        | some sym => .known (selectMode s.cfg.spacemark sym.1 sym.2)
        | none => s.s9Pmode
      lineTx := s.lineTx ++ (t9Symbols (t9Frame d)).flatMap (symbolEvents s.cfg) } := by
  unfold t9SendFrame
  rw [foldl_t9SendSymbol]
  rfl

/-- Everything a received character can do (R276, R278, R281). -/
theorem t9Char_cases (c : BitVec 11) (s : State) :
    (charWellFormed c = false ∧ t9Char c s = { s with s9Ferr := true }) ∨
      (charWellFormed c = true ∧ s.rxbuf.length < s.params.maxbuf ∧ t9Char c s = { s with
        rxbuf := s.rxbuf ++ [charData c], rxtag := s.rxtag ++ [charTag c], rxbufValid := false
        t9State := .collect, t9Timer := s.cfg.eopIdle }) ∨
      (charWellFormed c = true ∧ s.params.maxbuf ≤ s.rxbuf.length ∧ t9Char c s = { s with
        t9Ovf := true, t9State := .collect, t9Timer := s.cfg.eopIdle }) := by
  unfold t9Char
  cases hc : charWellFormed c
  · exact .inl ⟨rfl, rfl⟩
  · by_cases h : s.params.maxbuf ≤ s.rxbuf.length
    · exact .inr (.inr ⟨rfl, h, by simp [State.rxFull, h, State.withOvf]⟩)
    · exact .inr (.inl ⟨rfl, by omega, by simp [State.rxFull, h, State.appendRx]⟩)

/-- Characters handled one after another: what changes and what stays in bounds. -/
theorem foldl_t9Char_frame (cs : List (BitVec 11)) (s : State) :
    ∃ (rx : Bytes) (tag : List Bool) (v ovf ferr : Bool) (st : T9State) (tm : BitVec 32),
      cs.foldl (fun u c => t9Char c u) s = { s with
        rxbuf := rx, rxtag := tag, rxbufValid := v, t9Ovf := ovf, s9Ferr := ferr, t9State := st, t9Timer := tm } ∧
      (s.rxbuf.length ≤ s.params.maxbuf → rx.length ≤ s.params.maxbuf) ∧
      (s.rxtag.length = s.rxbuf.length → tag.length = rx.length) ∧
      ((st = s.t9State ∧ tm = s.t9Timer ∧ rx = s.rxbuf) ∨ (st = .collect ∧ tm = s.cfg.eopIdle)) := by
  induction cs generalizing s with
  | nil => exact ⟨_, _, _, _, _, _, _, rfl, id, id, .inl ⟨rfl, rfl, rfl⟩⟩
  | cons c cs ih =>
    rw [List.foldl_cons]
    rcases t9Char_cases c s with ⟨_, e⟩ | ⟨_, hl, e⟩ | ⟨_, hl, e⟩ <;> rw [e]
    · obtain ⟨rx, tag, v, o, f, st, tm, h, h1, h2, h3⟩ := ih { s with s9Ferr := true }
      exact ⟨rx, tag, v, o, f, st, tm, h, h1, h2, h3⟩
    · obtain ⟨rx, tag, v, o, f, st, tm, h, h1, h2, h3⟩ := ih { s with
        rxbuf := s.rxbuf ++ [charData c], rxtag := s.rxtag ++ [charTag c], rxbufValid := false
        t9State := .collect, t9Timer := s.cfg.eopIdle }
      refine ⟨rx, tag, v, o, f, st, tm, h, fun _ => h1 (by simp; omega), fun ht => h2 (by simp [ht]), ?_⟩
      rcases h3 with ⟨a, b, _⟩ | ⟨a, b⟩
      · exact .inr ⟨a, b⟩
      · exact .inr ⟨a, b⟩
    · obtain ⟨rx, tag, v, o, f, st, tm, h, h1, h2, h3⟩ := ih { s with
        t9Ovf := true, t9State := .collect, t9Timer := s.cfg.eopIdle }
      refine ⟨rx, tag, v, o, f, st, tm, h, h1, h2, ?_⟩
      rcases h3 with ⟨a, b, _⟩ | ⟨a, b⟩
      · exact .inr ⟨a, b⟩
      · exact .inr ⟨a, b⟩

/-- The start of a receive with no character waiting (R276). -/
theorem t9Start_of_no_chars {s : State} (h : rxqChars s.rxq = []) (t : BitVec 32) (e : Option (BitVec 16)) :
    t9Start t e s = { s with
      t9State := .waitFirst, t9Timer := t, t9Explen := e, t9Ovf := false
      rxbuf := [], rxtag := [], rxbufValid := false, rxq := rxqWithoutChars s.rxq } := by
  unfold t9Start
  rw [h]
  rfl

/-- Everything the start of a 9-bit receive can do (R276, R277). -/
theorem t9Start_frame (t : BitVec 32) (e : Option (BitVec 16)) (s : State) :
    ∃ (rx : Bytes) (tag : List Bool) (v ovf ferr : Bool) (st : T9State) (tm : BitVec 32),
      t9Start t e s = { s with
        rxbuf := rx, rxtag := tag, rxbufValid := v, t9Ovf := ovf, s9Ferr := ferr, t9State := st, t9Timer := tm
        t9Explen := e, rxq := rxqWithoutChars s.rxq } ∧
      rx.length ≤ s.params.maxbuf ∧ tag.length = rx.length ∧
      ((st = .waitFirst ∧ tm = t ∧ rx = []) ∨ (st = .collect ∧ tm = s.cfg.eopIdle)) := by
  unfold t9Start
  obtain ⟨rx, tag, v, o, f, st, tm, h, h1, h2, h3⟩ := foldl_t9Char_frame (rxqChars s.rxq)
    { (s.clearRx.withOvf false) with
      t9State := .waitFirst, t9Timer := t, t9Explen := e, rxq := rxqWithoutChars s.rxq }
  exact ⟨rx, tag, v, o, f, st, tm, h, h1 (Nat.zero_le _), h2 rfl, h3⟩

/-- Everything the end of a capture can do (R282, R285): the capture is trimmed, `CHK16.ACC` may be written, and the
result is data, no longer than what `RXBUF` held, or an error that is raised. -/
theorem t9Finish_frame (s : State) :
    ∃ (n : Nat) (acc : BitVec 16), (acc = s.chk16Acc ∨ acc.toNat ≤ 65534) ∧
      ((∃ d : Bytes, d.length ≤ s.rxbuf.length ∧ t9Finish s =
          ({ s with rxbuf := s.rxbuf.take n, rxtag := s.rxtag.take n, chk16Acc := acc, rxbufValid := true },
            .value d)) ∨
        ∃ k info, k ≠ .none ∧ t9Finish s =
          (({ s with rxbuf := s.rxbuf.take n, rxtag := s.rxtag.take n, chk16Acc := acc } : State).raise k info,
            .err k info)) := by
  obtain ⟨acc, ha, h1, h2⟩ :=
    chk16Validate_frame (s.truncateRx (trimLength s.t9Explen s.rxbuf.length)).rxbuf
      (s.truncateRx (trimLength s.t9Explen s.rxbuf.length))
  refine ⟨trimLength s.t9Explen s.rxbuf.length, acc, ha, ?_⟩
  rcases h2 with ⟨d, hl, h2⟩ | ⟨k, info, hk, h2⟩
  · refine .inl ⟨d, Nat.le_trans hl (by simp [State.truncateRx]), ?_⟩
    simp only [t9Finish, (Prod.ext h1 h2 : chk16Validate _ _ = (_, _))]
    rfl
  · refine .inr ⟨k, info, hk, ?_⟩
    simp only [t9Finish, (Prod.ext h1 h2 : chk16Validate _ _ = (_, _))]
    rfl

/-- Everything a tick can do to a running 9-bit receive (R279, R280). -/
theorem t9Tick_cases (s : State) :
    (s.t9Timer - 1 ≠ 0 ∧ t9Tick s = ({ s with t9Timer := s.t9Timer - 1 }, none)) ∨
      (s.t9Timer - 1 = 0 ∧ s.t9State = .off ∧ t9Tick s = ({ s with t9Timer := 0 }, none)) ∨
      (s.t9Timer - 1 = 0 ∧ s.t9State = .waitFirst ∧
        t9Tick s = ({ s with t9Timer := 0, t9State := .off }, some .noValue)) ∨
      (s.t9Timer - 1 = 0 ∧ s.t9State = .collect ∧
        t9Tick s = ((t9Finish { s with t9Timer := 0, t9State := .off }).1,
          some (t9Finish { s with t9Timer := 0, t9State := .off }).2)) := by
  unfold t9Tick
  by_cases h : s.t9Timer - 1 = 0
  · rw [h]
    cases hs : s.t9State
    · exact .inr (.inl ⟨rfl, rfl, rfl⟩)
    · exact .inr (.inr (.inl ⟨rfl, rfl, rfl⟩))
    · exact .inr (.inr (.inr ⟨rfl, rfl, rfl⟩))
  · exact .inl ⟨h, if_neg h⟩

end Sys2Proof.Machine
end

