-- ==== Sys2Proof/Laws/Xch.lean ====
section
/-! SUPPORT. The exchange: the equations of its transitions, and what a step does with each kind of event. -/

namespace Sys2Proof.Machine

/-- The six bytes of a request register are those of the packet (R93). -/
theorem bytes48_body48 (port ty : Byte) (ad pa : BitVec 16) :
    bytes48 (body48 port ty ad pa) = packetBody port ty ad pa := by
  have h (n : Nat) (x : BitVec 48) (y : Byte) (hb : ∀ i, i < 8 → x.getLsbD (n + i) = y.getLsbD i) :
      x.extractLsb' n 8 = y := by
    apply BitVec.eq_of_getLsbD_eq
    intro i hi
    rw [BitVec.getLsbD_extractLsb', hb i hi]
    simp [hi]
  unfold bytes48 body48 packetBody hi8 lo8
  congr 1
  · exact h _ _ _ fun i hi => by
      simp only [BitVec.getLsbD_append, show ¬ 40 + i < 16 by omega, show ¬ 40 + i - 16 < 16 by omega,
        show ¬ 40 + i - 16 - 16 < 8 by omega, if_false]
      congr 1; omega
  congr 1
  · exact h _ _ _ fun i hi => by
      simp only [BitVec.getLsbD_append, show ¬ 32 + i < 16 by omega, show ¬ 32 + i - 16 < 16 by omega,
        show 32 + i - 16 - 16 < 8 by omega, if_false, if_true]
      congr 1; omega
  congr 1
  · exact h _ _ _ fun i hi => by
      simp only [BitVec.getLsbD_append, show ¬ 24 + i < 16 by omega, show 24 + i - 16 < 16 by omega, if_false, if_true,
        BitVec.getLsbD_extractLsb', hi, decide_true, Bool.true_and]
      congr 1; omega
  congr 1
  · exact h _ _ _ fun i hi => by
      simp only [BitVec.getLsbD_append, show ¬ 16 + i < 16 by omega, show 16 + i - 16 < 16 by omega, if_false, if_true,
        BitVec.getLsbD_extractLsb', hi, decide_true, Bool.true_and]
      congr 1; omega
  congr 1
  · exact h _ _ _ fun i hi => by
      simp only [BitVec.getLsbD_append, show 8 + i < 16 by omega, if_true, BitVec.getLsbD_extractLsb', hi, decide_true,
        Bool.true_and]
  congr 1
  · exact h _ _ _ fun i hi => by
      simp only [BitVec.getLsbD_append, show 0 + i < 16 by omega, if_true, BitVec.getLsbD_extractLsb', hi, decide_true,
        Bool.true_and]

/-! The retry loop (R325 to R327). -/

@[simp] theorem xchSettle_value (n : Nat) (bs : Bytes) (s : State) : xchSettle n (.value bs) s = xchValidate bs s := by
  cases n <;> rfl

@[simp] theorem xchSettle_void (n : Nat) (s : State) : xchSettle n .void s = s := by cases n <;> rfl

@[simp] theorem xchSettle_zero_err (k : ErrKind) (info : BitVec 16) (s : State) :
    xchSettle 0 (.err k info) s = xchFail k info s := rfl

@[simp] theorem xchSettle_zero_noValue (s : State) : xchSettle 0 .noValue s = xchFail .noResponse 0 s := rfl

theorem xchSettle_fatal {k : ErrKind} (h : k.retryable = false) (n : Nat) (info : BitVec 16) (s : State) :
    xchSettle n (.err k info) s = xchFail k info s := by
  cases n with
  | zero => rfl
  | succ n => simp [xchSettle, h]

/-- A retry: the next attempt, whose receive may end at once and be settled again. -/
theorem xchSettle_succ_err {k : ErrKind} (h : k.retryable = true) (n : Nat) (info : BitVec 16) (s : State) :
    xchSettle (n + 1) (.err k info) s = match (xchAttempt (xchRetry k info s)).2 with
      | none => (xchAttempt (xchRetry k info s)).1
      | some r => xchSettle n r (xchAttempt (xchRetry k info s)).1 := by
  rw [xchSettle, if_pos h]
  rcases xchAttempt (xchRetry k info s) with ⟨t, _ | r⟩ <;> rfl

theorem xchSettle_succ_noValue (n : Nat) (s : State) :
    xchSettle (n + 1) .noValue s = match (xchAttempt (xchRetry .noResponse 0 s)).2 with
      | none => (xchAttempt (xchRetry .noResponse 0 s)).1
      | some r => xchSettle n r (xchAttempt (xchRetry .noResponse 0 s)).1 := by
  rw [xchSettle]
  rcases xchAttempt (xchRetry .noResponse 0 s) with ⟨t, _ | r⟩ <;> rfl

/-- An attempt answers nothing by itself over the 9-bit line. -/
theorem xchAttempt_ser9 {s : State} (h : s.cfg.transport = .ser9) :
    (xchAttempt s).2 = none ∧ (xchAttempt s).1 =
      t9Start s.cfg.rxTimeout (s.xchExplen.map (· + 1))
        { t9SendFrame (bytes48 s.xchReq) s with
          xchAttempts := s.xchAttempts + 1, xchState := .awaitingResponse } := by
  unfold xchAttempt xchListen xchTransmit
  simp only [h]
  rw [t9SendFrame_eq, t9SendFrame_eq]
  simp only [h]
  exact ⟨trivial, trivial⟩

/-- What a failing exchange leaves (R325 (c), R327). -/
theorem xchFail_eq (k : ErrKind) (info : BitVec 16) (s : State) :
    xchFail k info s =
      ({ s with xchLasterr := some (k, info), xchState := .failed } : State).ended k info := by
  unfold xchFail
  exact State.answer_err rfl k info

@[simp] theorem receiveEnded_none (s : State) : receiveEnded (s, none) = s := rfl

theorem receiveEnded_standalone {s : State} (h : s.xchState ≠ .awaitingResponse) (r : OpResult) :
    receiveEnded (s, some r) = s.answer r := if_neg h

theorem receiveEnded_exchange {s : State} (h : s.xchState = .awaitingResponse) (r : OpResult) :
    receiveEnded (s, some r) = xchSettle s.retriesLeft r s := if_pos h

/-! Steps (R395). -/

theorem step_none {s : State} (h : s.events = []) : step s = .next s := by simp [step, h]

theorem step_event {s : State} {e : Event} {rest : List Event} (h : s.events = e :: rest) :
    step s = runEvent e { s with events := rest } := by simp [step, h]

theorem step_tick {s : State} {rest : List Event} (h : s.events = .tick :: rest) :
    step s = .next (onTick { s with events := rest }) := step_event h

theorem step_rxChar {s : State} {c : BitVec 11} {rest : List Event} (h : s.events = .rxChar c :: rest) :
    step s = .next (onRxChar c { s with events := rest }) := step_event h

theorem step_rxByte {s : State} {b : Byte} {rest : List Event} (h : s.events = .rxByte b :: rest) :
    step s = .next (onRxByte b { s with events := rest }) := step_event h

theorem onTick_idle {s : State} (h : s.Idle) : onTick s = s := by
  unfold onTick; simp [h.2.1, h.2.2]

theorem onTick_t9 {s : State} (h : s.t9State ≠ .off) : onTick s = receiveEnded (t9Tick s) := if_pos h

theorem onTick_pjf {s : State} (h9 : s.t9State = .off) (h : s.pjfRxstate = .listen) :
    onTick s = receiveEnded (pjfTick s) := by
  unfold onTick; simp [h9, h]

theorem onRxChar_t9 {s : State} (h : s.t9State ≠ .off) (c : BitVec 11) : onRxChar c s = t9Char c s := if_pos h

theorem onRxByte_pjf {s : State} (h : s.pjfRxstate = .listen) (b : Byte) :
    onRxByte b s = receiveEnded (pjfByte b s) := if_pos h

/-- A run of `m + n` steps is a run of `n` steps from where `m` steps lead. -/
theorem runSteps_add {m : Nat} : ∀ {s t : State} (_ : runSteps m s = .next t) (n : Nat),
    runSteps (m + n) s = runSteps n t := by
  induction m with
  | zero => intro s t h n; cases h; rw [Nat.zero_add]
  | succ m ih =>
    intro s t h n
    rw [runSteps] at h
    rw [Nat.succ_add, runSteps]
    cases hs : step s with
    | next u => rw [hs] at h; exact ih h n
    | fault r => rw [hs] at h; cases h
    | refused r => rw [hs] at h; cases h

end Sys2Proof.Machine
end

