-- ==== Sys2Proof/Laws/Host.lean ====
section
/-! SUPPORT. The host sequences: ports and codes read back, and everything one step of host and block can do. -/

namespace Sys2Proof.Machine

@[simp] theorem ErrKind.ofCode_code (k : ErrKind) : ErrKind.ofCode k.code = k := by cases k <;> rfl

@[simp] theorem portByte_toNat (p : Port) : (portByte p).toNat = p.val := by
  revert p; decide

theorem portByte_injective {p q : Port} (h : portByte p = portByte q) : p = q :=
  Fin.ext (by rw [← portByte_toNat, ← portByte_toNat, h])

/-- The port after `p`, where there is one. -/
theorem nextPort_eq_some {p q : Port} : nextPort p = some q ↔ q.val = p.val + 1 := by
  revert p q; decide

theorem nextPort_eq_none {p : Port} : nextPort p = none ↔ p = 9 := by
  revert p; decide

/-- Everything `scan` can make of its query (R361). -/
theorem scanResult_cases (o : QueryOutcome) :
    (∃ v, o = .value v ∧ scanResult o = .ok (some (lo8 v))) ∨
      (o = .failed .noResponse ∧ scanResult o = .ok none) ∨
      (∃ k, k ≠ .noResponse ∧ o = .failed k ∧ scanResult o = .error k) := by
  cases o with
  | value v => exact .inl ⟨v, rfl, rfl⟩
  | failed k =>
    by_cases h : k = .noResponse
    · subst h; exact .inr (.inl ⟨rfl, rfl⟩)
    · refine .inr (.inr ⟨k, h, rfl, ?_⟩)
      cases k <;> first | rfl | exact absurd rfl h

/-- The host after a step that sent no answer waits on. -/
theorem Discovery.observe_silent (codes : DeviceCodes) (d : Discovery) {s t : State} (h : t.rsp = s.rsp) :
    d.observe codes s t = .await d := by simp [Discovery.observe, h]

/-- The host after a step that sent an answer goes on from what it reads. -/
theorem Discovery.observe_answer (codes : DeviceCodes) (d : Discovery) {s t : State} {r : Bytes}
    (h : t.rsp = s.rsp ++ [r]) : d.observe codes s t = (d.next codes (readAnswer r)).task := by
  simp [Discovery.observe, h]

@[simp] theorem hostStep_ended (codes : DeviceCodes) (s : State) (r : DiscoveryResult) :
    hostStep codes { block := s, task := .ended r } = .next { block := s, task := .ended r } := rfl

/-- To issue a scan is a step of the block on the scan's command. -/
theorem hostStep_issue {codes : DeviceCodes} {s t : State} {d : Discovery}
    (h : step { s with events := .cmd (scanCommand d.port) :: s.events } = .next t) :
    hostStep codes { block := s, task := .issue d } = .next { block := t, task := d.observe codes s t } := by
  simp [hostStep, h]

/-- To wait is a step of the block on its oldest pending event. -/
theorem hostStep_await {codes : DeviceCodes} {s t : State} {d : Discovery} (h : step s = .next t)
    (hc : ∀ ev ∈ s.events, ev.isCommand = false) :
    hostStep codes { block := s, task := .await d } = .next { block := t, task := d.observe codes s t } := by
  unfold hostStep
  dsimp only
  rw [h]
  cases he : s.events with
  | nil => simp
  | cons e rest => simp [hc e (by simp [he])]

/-- A run of `m + n` steps of host and block is a run of `n` steps from where `m` steps lead. -/
theorem runHost_add {codes : DeviceCodes} {m : Nat} : ∀ {h k : HostSystem} (_ : runHost codes m h = .next k) (n : Nat),
    runHost codes (m + n) h = runHost codes n k := by
  induction m with
  | zero => intro h k e n; cases e; rw [Nat.zero_add]
  | succ m ih =>
    intro h k e n
    rw [runHost] at e
    rw [Nat.succ_add, runHost]
    cases hs : hostStep codes h with
    | next u => rw [hs] at e; exact ih e n
    | fault r => rw [hs] at e; cases e
    | refused r => rw [hs] at e; cases e

end Sys2Proof.Machine
end

