-- ==== Sys2Proof/Laws/PerInstr.lean ====
section
/-! SUPPORT. The per-instruction family `EncodedLength`: a command has the operation-select byte of its row and the length of
the row's layout (spec/30_encoding.md R104, R105). -/

namespace Sys2Proof.Laws.EncodedLength

/-- The operation-select byte of an operation (R105). -/
def opsel : Instr → Byte
  | .reset => 0x00
  | .chk16Clr => 0x10
  | .chk16Upd _ => 0x11
  | .chk16Gen _ => 0x12
  | .chk16Val _ => 0x13
  | .crc8Clr => 0x20
  | .crc8Upd _ => 0x21
  | .crc8Gen _ => 0x22
  | .crc8Val _ => 0x23
  | .crc32Clr => 0x30
  | .crc32Upd _ => 0x31
  | .crc32Gen _ => 0x32
  | .crc32Val _ => 0x33
  | .escEnc _ => 0x40
  | .escDec _ => 0x41
  | .sfspWrap _ => 0x42
  | .sfspRxb _ => 0x43
  | .pjonBuild _ => 0x50
  | .pjonParse _ => 0x51
  | .pjonSend _ => 0x52
  | .pjonRecv _ _ => 0x53
  | .s9Psel _ _ => 0x60
  | .s9Build _ _ => 0x61
  | .s9Parse _ => 0x62
  | .s9Tx _ _ => 0x63
  | .t9Build _ => 0x70
  | .t9Val _ _ => 0x71
  | .t9Send _ => 0x72
  | .t9Recv _ _ => 0x73
  | .pktEnc _ _ _ _ => 0x80
  | .pktRsp _ => 0x81
  | .pktU16 _ => 0x82
  | .xchSend _ _ _ _ _ => 0x90
  | .xchQuery _ _ _ => 0x91
  | .xchControl _ _ _ => 0x92

/-- The command length of an operation (R104). -/
def commandLength : Instr → Nat
  | .reset => 1
  | .chk16Clr => 1
  | .chk16Upd _ => 2
  | .chk16Gen d => d.length + 3
  | .chk16Val d => d.length + 3
  | .crc8Clr => 1
  | .crc8Upd _ => 2
  | .crc8Gen d => d.length + 3
  | .crc8Val d => d.length + 3
  | .crc32Clr => 1
  | .crc32Upd _ => 2
  | .crc32Gen d => d.length + 3
  | .crc32Val d => d.length + 3
  | .escEnc d => d.length + 3
  | .escDec d => d.length + 3
  | .sfspWrap d => d.length + 3
  | .sfspRxb _ => 2
  | .pjonBuild d => d.length + 3
  | .pjonParse d => d.length + 3
  | .pjonSend d => d.length + 3
  | .pjonRecv _ _ => 7
  | .s9Psel _ _ => 3
  | .s9Build _ _ => 3
  | .s9Parse _ => 3
  | .s9Tx _ _ => 3
  | .t9Build d => d.length + 3
  | .t9Val _ d => d.length + 5
  | .t9Send d => d.length + 3
  | .t9Recv _ _ => 7
  | .pktEnc _ _ _ _ => 7
  | .pktRsp d => d.length + 3
  | .pktU16 d => d.length + 3
  | .xchSend _ _ _ _ _ => 9
  | .xchQuery _ _ _ => 6
  | .xchControl _ _ _ => 6

/-- The command starts with the operation-select byte and has the length of its layout. -/
def Statement (i : Instr) : Prop := (encode i).head? = some (opsel i) ∧ (encode i).length = commandLength i

theorem reset : Statement .reset := ⟨rfl, rfl⟩
theorem chk16Clr : Statement .chk16Clr := ⟨rfl, rfl⟩
theorem chk16Upd (b : Byte) : Statement (.chk16Upd b) := ⟨rfl, rfl⟩
theorem chk16Gen (d : Bytes) : Statement (.chk16Gen d) := ⟨rfl, by simp [encode, encodeString, be16, commandLength]⟩
theorem chk16Val (d : Bytes) : Statement (.chk16Val d) := ⟨rfl, by simp [encode, encodeString, be16, commandLength]⟩
theorem crc8Clr : Statement .crc8Clr := ⟨rfl, rfl⟩
theorem crc8Upd (b : Byte) : Statement (.crc8Upd b) := ⟨rfl, rfl⟩
theorem crc8Gen (d : Bytes) : Statement (.crc8Gen d) := ⟨rfl, by simp [encode, encodeString, be16, commandLength]⟩
theorem crc8Val (d : Bytes) : Statement (.crc8Val d) := ⟨rfl, by simp [encode, encodeString, be16, commandLength]⟩
theorem crc32Clr : Statement .crc32Clr := ⟨rfl, rfl⟩
theorem crc32Upd (b : Byte) : Statement (.crc32Upd b) := ⟨rfl, rfl⟩
theorem crc32Gen (d : Bytes) : Statement (.crc32Gen d) := ⟨rfl, by simp [encode, encodeString, be16, commandLength]⟩
theorem crc32Val (d : Bytes) : Statement (.crc32Val d) := ⟨rfl, by simp [encode, encodeString, be16, commandLength]⟩
theorem escEnc (d : Bytes) : Statement (.escEnc d) := ⟨rfl, by simp [encode, encodeString, be16, commandLength]⟩
theorem escDec (d : Bytes) : Statement (.escDec d) := ⟨rfl, by simp [encode, encodeString, be16, commandLength]⟩
theorem sfspWrap (d : Bytes) : Statement (.sfspWrap d) := ⟨rfl, by simp [encode, encodeString, be16, commandLength]⟩
theorem sfspRxb (b : Byte) : Statement (.sfspRxb b) := ⟨rfl, rfl⟩
theorem pjonBuild (d : Bytes) : Statement (.pjonBuild d) := ⟨rfl, by simp [encode, encodeString, be16, commandLength]⟩
theorem pjonParse (d : Bytes) : Statement (.pjonParse d) := ⟨rfl, by simp [encode, encodeString, be16, commandLength]⟩
theorem pjonSend (d : Bytes) : Statement (.pjonSend d) := ⟨rfl, by simp [encode, encodeString, be16, commandLength]⟩
theorem pjonRecv (t : BitVec 32) (e : Option (BitVec 16)) : Statement (.pjonRecv t e) := ⟨rfl, rfl⟩
theorem s9Psel (a : Bool) (d : Byte) : Statement (.s9Psel a d) := ⟨rfl, rfl⟩
theorem s9Build (a : Bool) (d : Byte) : Statement (.s9Build a d) := ⟨rfl, rfl⟩
theorem s9Parse (c : BitVec 11) : Statement (.s9Parse c) := ⟨rfl, rfl⟩
theorem s9Tx (a : Bool) (d : Byte) : Statement (.s9Tx a d) := ⟨rfl, rfl⟩
theorem t9Build (d : Bytes) : Statement (.t9Build d) := ⟨rfl, by simp [encode, encodeString, be16, commandLength]⟩
theorem t9Val (e : Option (BitVec 16)) (d : Bytes) : Statement (.t9Val e d) := ⟨rfl, by simp [encode, encodeString, encodeExplen, be16, commandLength]⟩
theorem t9Send (d : Bytes) : Statement (.t9Send d) := ⟨rfl, by simp [encode, encodeString, be16, commandLength]⟩
theorem t9Recv (t : BitVec 32) (e : Option (BitVec 16)) : Statement (.t9Recv t e) := ⟨rfl, rfl⟩
theorem pktEnc (port : Byte) (ty : Byte) (ad : BitVec 16) (pa : BitVec 16) : Statement (.pktEnc port ty ad pa) := ⟨rfl, rfl⟩
theorem pktRsp (d : Bytes) : Statement (.pktRsp d) := ⟨rfl, by simp [encode, encodeString, be16, commandLength]⟩
theorem pktU16 (d : Bytes) : Statement (.pktU16 d) := ⟨rfl, by simp [encode, encodeString, be16, commandLength]⟩
theorem xchSend (port : Byte) (ty : Byte) (ad : BitVec 16) (pa : BitVec 16) (e : Option (BitVec 16)) : Statement (.xchSend port ty ad pa e) := ⟨rfl, rfl⟩
theorem xchQuery (port : Byte) (reg : BitVec 16) (v : BitVec 16) : Statement (.xchQuery port reg v) := ⟨rfl, rfl⟩
theorem xchControl (port : Byte) (reg : BitVec 16) (v : BitVec 16) : Statement (.xchControl port reg v) := ⟨rfl, rfl⟩

end Sys2Proof.Laws.EncodedLength
end

