-- ==== Sys2Proof/Tests/Slice0.lean ====
section
/-! SUPPORT. The model's own tests: what WellFormed refuses, one command per operation written out byte by byte from the
formats of spec/30_encoding.md, one step of every operation on a small state with the value spec/95_test_vectors.md
gives, and one witness for the hypotheses of every statement that has any. -/

namespace Sys2Proof.Tests.Slice0

open Sys2Proof Sys2Proof.Machine

/-! ## WellFormed -/

theorem test_wf_long_string : (Instr.chk16Gen (List.replicate 65536 0)).wf = false := by
  simp only [Instr.wf, stringFits, List.length_replicate]; decide
theorem test_wf_longest_string : (Instr.chk16Gen (List.replicate 65535 0)).wf = true := by
  simp only [Instr.wf, stringFits, List.length_replicate]; decide
theorem test_wf_long_string_t9val : (Instr.t9Val none (List.replicate 65536 0)).wf = false := by
  simp only [Instr.wf, stringFits, explenFits, List.length_replicate]; decide
theorem test_wf_explen_t9val : (Instr.t9Val (some 0xFFFF) []).wf = false := by decide
theorem test_wf_explen_pjonRecv : (Instr.pjonRecv 1 (some 0xFFFF)).wf = false := by decide
theorem test_wf_explen_t9Recv : (Instr.t9Recv 1 (some 0xFFFF)).wf = false := by decide
theorem test_wf_explen_xchSend : (Instr.xchSend 0 2 0 0 (some 0xFFFF)).wf = false := by decide
theorem test_wf_explen_largest : (Instr.t9Recv 1 (some 0xFFFE)).wf = true := by decide

/-! ## Decoding: the operation-select map of R105 with the formats of R104, each command written out by hand -/

theorem test_decode_reset : decode [0x00] = .ok (.reset) := by decide
theorem test_decode_chk16Clr : decode [0x10] = .ok (.chk16Clr) := by decide
theorem test_decode_chk16Upd : decode [0x11, 0x02] = .ok (.chk16Upd 0x02) := by decide
theorem test_decode_chk16Gen : decode [0x12, 0x00, 0x02, 0xA1, 0xB2] = .ok (.chk16Gen [0xA1, 0xB2]) := by decide
theorem test_decode_chk16Val : decode [0x13, 0x00, 0x03, 0x00, 0x01, 0x02] = .ok (.chk16Val [0x00, 0x01, 0x02]) := by decide
theorem test_decode_crc8Clr : decode [0x20] = .ok (.crc8Clr) := by decide
theorem test_decode_crc8Upd : decode [0x21, 0x0A] = .ok (.crc8Upd 0x0A) := by decide
theorem test_decode_crc8Gen : decode [0x22, 0x00, 0x01, 0x80] = .ok (.crc8Gen [0x80]) := by decide
theorem test_decode_crc8Val : decode [0x23, 0x00, 0x02, 0x01, 0x86] = .ok (.crc8Val [0x01, 0x86]) := by decide
theorem test_decode_crc32Clr : decode [0x30] = .ok (.crc32Clr) := by decide
theorem test_decode_crc32Upd : decode [0x31, 0x61] = .ok (.crc32Upd 0x61) := by decide
theorem test_decode_crc32Gen : decode [0x32, 0x00, 0x00] = .ok (.crc32Gen []) := by decide
theorem test_decode_crc32Val : decode [0x33, 0x00, 0x04, 0x00, 0x00, 0x00, 0x00] = .ok (.crc32Val [0, 0, 0, 0]) := by decide
theorem test_decode_escEnc : decode [0x40, 0x00, 0x01, 0x95] = .ok (.escEnc [0x95]) := by decide
theorem test_decode_escDec : decode [0x41, 0x00, 0x02, 0xBB, 0x2E] = .ok (.escDec [0xBB, 0x2E]) := by decide
theorem test_decode_sfspWrap : decode [0x42, 0x00, 0x01, 0xEA] = .ok (.sfspWrap [0xEA]) := by decide
theorem test_decode_sfspRxb : decode [0x43, 0x95] = .ok (.sfspRxb 0x95) := by decide
theorem test_decode_pjonBuild : decode [0x50, 0x00, 0x01, 0x07] = .ok (.pjonBuild [0x07]) := by decide
theorem test_decode_pjonParse : decode [0x51, 0x00, 0x01, 0x08] = .ok (.pjonParse [0x08]) := by decide
theorem test_decode_pjonSend : decode [0x52, 0x00, 0x01, 0x09] = .ok (.pjonSend [0x09]) := by decide
theorem test_decode_pjonRecv : decode [0x53, 0x01, 0x02, 0x03, 0x04, 0x05, 0x06] = .ok (.pjonRecv 0x01020304 (some 0x0506)) := by decide
theorem test_decode_s9Psel : decode [0x60, 0x01, 0x02] = .ok (.s9Psel true 0x02) := by decide
theorem test_decode_s9Build : decode [0x61, 0x00, 0x02] = .ok (.s9Build false 0x02) := by decide
theorem test_decode_s9Parse : decode [0x62, 0x06, 0x03] = .ok (.s9Parse 0x603) := by decide
theorem test_decode_s9Tx : decode [0x63, 0x01, 0xFF] = .ok (.s9Tx true 0xFF) := by decide
theorem test_decode_t9Build : decode [0x70, 0x00, 0x01, 0xAA] = .ok (.t9Build [0xAA]) := by decide
theorem test_decode_t9Val : decode [0x71, 0x00, 0x03, 0x00, 0x01, 0xAB] = .ok (.t9Val (some 3) [0xAB]) := by decide
theorem test_decode_t9Send : decode [0x72, 0x00, 0x01, 0xAC] = .ok (.t9Send [0xAC]) := by decide
theorem test_decode_t9Recv : decode [0x73, 0x00, 0x00, 0x03, 0xE8, 0xFF, 0xFF] = .ok (.t9Recv 1000 none) := by decide
theorem test_decode_pktEnc : decode [0x80, 0x01, 0x03, 0x12, 0x34, 0xAB, 0xCD] = .ok (.pktEnc 1 3 0x1234 0xABCD) := by decide
theorem test_decode_pktRsp : decode [0x81, 0x00, 0x02, 0x03, 0x0B] = .ok (.pktRsp [0x03, 0x0B]) := by decide
theorem test_decode_pktU16 : decode [0x82, 0x00, 0x02, 0x00, 0x0B] = .ok (.pktU16 [0x00, 0x0B]) := by decide
theorem test_decode_xchSend : decode [0x90, 0x01, 0x04, 0x00, 0x01, 0x12, 0x34, 0x00, 0x0D] = .ok (.xchSend 1 4 0x0001 0x1234 (some 13)) := by decide
theorem test_decode_xchQuery : decode [0x91, 0x03, 0x12, 0x34, 0x56, 0x78] = .ok (.xchQuery 3 0x1234 0x5678) := by decide
theorem test_decode_xchControl : decode [0x92, 0x01, 0x12, 0x34, 0xAB, 0xCD] = .ok (.xchControl 1 0x1234 0xABCD) := by decide

theorem test_decode_empty : decode [] = .error .noOpsel := by decide
theorem test_decode_reserved : decode [0xA0, 0x00] = .error (.reservedOpsel 0xA0) := by decide
theorem test_decode_short : decode [0x91, 0x00, 0x00, 0x02, 0x00] = .error (.badOperands 0x91) := by decide
theorem test_decode_long : decode [0x10, 0x00] = .error (.badOperands 0x10) := by decide
theorem test_decode_string_length : decode [0x12, 0x00, 0x02, 0xA1] = .error (.badOperands 0x12) := by decide
theorem test_decode_symbol_mbz : decode [0x60, 0x02, 0x00] = .error (.badOperands 0x60) := by decide
theorem test_decode_char_mbz : decode [0x62, 0x08, 0x00] = .error (.badOperands 0x62) := by decide
theorem test_table_word_query : decodeTableWord 8 0x91 = some (.xchQuery 0 0 0) := by decide
theorem test_table_word_bytes : decodeTableWord 16 0x0211 = some (.chk16Upd 0x02) := by decide
theorem test_table_word_reserved : decodeTableWord 8 0x0F = none := by decide

/-! ## One step of every operation -/

/-- A block right after reset on a transport, with small timeouts. -/
def small (tr : Transport) : State :=
  State.ofParams { Config.defaultParams with transport := tr, rxTimeoutTicks := 2, eopIdleTicks := 1, retryPacket := 1 }

/-- One step of a state with one pending command. -/
def cmd (s : State) (bytes : Bytes) : Option State :=
  match step { s with events := [.cmd bytes] } with
  | .next t => some t
  | .fault _ => none
  | .refused _ => none

/-- The answers sent after one command on the reset state. -/
def answers (bytes : Bytes) : Option (List Bytes) := (cmd State.reset bytes).map State.rsp

theorem test_reset_while_busy : (cmd { small .ser9 with xchState := .awaitingResponse, t9State := .collect } [0x00]).map
    (fun t => (t.rsp, t.xchState, t.t9State)) = some ([[0x00, 0x00, 0x00, 0x02, 0x00, 0x00]], .idle, .off) := by decide
theorem test_chk16Clr : (cmd { State.reset with chk16Acc := 7 } [0x10]).map State.chk16Acc = some 0 := by decide
/-- Vectors A15, A16. -/
theorem test_chk16Upd_wraps : (cmd { State.reset with chk16Acc := 0xFFFE } [0x11, 0x01]).map State.chk16Acc = some 0 := by decide
theorem test_chk16Upd_above : (cmd { State.reset with chk16Acc := 0xFFFE } [0x11, 0xFF]).map State.chk16Acc = some 0x00FE := by
  decide
/-- Vectors A5, A9, A10. -/
theorem test_chk16Gen : answers [0x12, 0x00, 0x06, 0x01, 0x03, 0x12, 0x34, 0xAB, 0xCD] = some [[0x00, 0x00, 0x00, 0x01, 0x00, 0x02, 0x01, 0xC2]] := by decide
theorem test_chk16Val_ok : answers [0x13, 0x00, 0x05, 0x03, 0x00, 0x0B, 0x00, 0x0E] = some [[0x00, 0x00, 0x00, 0x01, 0x00, 0x03, 0x03, 0x00, 0x0B]] := by decide
theorem test_chk16Val_bad : answers [0x13, 0x00, 0x05, 0x03, 0x00, 0x0A, 0x00, 0x0E] = some [[0x02, 0x00, 0x0D, 0x00, 0x00, 0x00]] := by decide
theorem test_crc8Clr : (cmd { State.reset with crc8Reg := 7 } [0x20]).map State.crc8Reg = some 0 := by decide
/-- Vectors B12, B11, B13. -/
theorem test_crc8Upd : (cmd { State.reset with crc8Reg := 0xAF } [0x21, 0x02]).map State.crc8Reg = some 0xB5 := by decide
theorem test_crc8Gen : answers [0x22, 0x00, 0x03, 0x01, 0x22, 0x17] = some [[0x00, 0x00, 0x00, 0x01, 0x00, 0x01, 0x75]] := by decide +kernel
theorem test_crc8Val_ok : answers [0x23, 0x00, 0x04, 0x0A, 0x02, 0x0C, 0xC4] = some [[0x00, 0x00, 0x00, 0x01, 0x00, 0x01, 0x01]] := by decide +kernel
theorem test_crc8Val_empty : answers [0x23, 0x00, 0x00] = some [[0x05, 0x00, 0x00, 0x00, 0x00, 0x00]] := by decide
theorem test_crc32Clr : (cmd { State.reset with crc32Reg := 7 } [0x30]).map State.crc32Reg = some 0xFFFFFFFF := by decide
/-- Vectors C11, C9, C12. -/
theorem test_crc32Upd : (cmd State.reset [0x31, 0x61]).map (fun t => (t.crc32Reg, t.rsp)) =
    some (0x174841BC, [[0x00, 0x00, 0x00, 0x01, 0x00, 0x04, 0xE8, 0xB7, 0xBE, 0x43]]) := by decide
theorem test_crc32Gen : answers [0x32, 0x00, 0x06, 0x00, 0x02, 0x00, 0x02, 0x00, 0x00] = some [[0x00, 0x00, 0x00, 0x01, 0x00, 0x04, 0xC8, 0x86, 0x26, 0xAD]] := by decide +kernel
theorem test_crc32Val_bad : answers [0x33, 0x00, 0x05, 0x61, 0xE8, 0xB7, 0xBE, 0x42] = some [[0x00, 0x00, 0x00, 0x01, 0x00, 0x01, 0x00]] := by decide
theorem test_crc32Val_short : answers [0x33, 0x00, 0x03, 0x00, 0x00, 0x00] = some [[0x05, 0x00, 0x03, 0x00, 0x00, 0x00]] := by decide
/-- Vectors E4, E6, E8, E9. -/
theorem test_escEnc : answers [0x40, 0x00, 0x05, 0x01, 0x95, 0xEA, 0xBB, 0xED] = some [[0x00, 0x00, 0x00, 0x01, 0x00, 0x08, 0x01, 0xBB, 0x2E, 0xBB, 0x51, 0xBB, 0x00, 0xED]] := by decide
theorem test_escDec_ok : answers [0x41, 0x00, 0x08, 0x01, 0xBB, 0x2E, 0xBB, 0x51, 0xBB, 0x00, 0xED] = some [[0x00, 0x00, 0x00, 0x01, 0x00, 0x05, 0x01, 0x95, 0xEA, 0xBB, 0xED]] := by decide
theorem test_escDec_bad : answers [0x41, 0x00, 0x02, 0xBB, 0xEA] = some [[0x0C, 0x00, 0x01, 0x00, 0x00, 0x00]] := by decide
theorem test_sfspWrap : answers [0x42, 0x00, 0x01, 0x95] = some [[0x00, 0x00, 0x00, 0x01, 0x00, 0x04, 0x95, 0xBB, 0x2E, 0xEA]] := by decide
/-- Vectors E13 and E12: `START` restarts behind `ESC`, `END` behind `ESC` is malformed. -/
theorem test_sfspRxb_start : (cmd { State.reset with escState := .escaped, rxbuf := [1], rxtag := [false] } [0x43, 0x95]).map
    (fun t => (t.escState, t.rxbuf)) = some (.body, []) := by decide
theorem test_sfspRxb_malformed : (cmd { State.reset with escState := .escaped, rxbuf := [1], rxtag := [false] }
    [0x43, 0xEA]).map (fun t => (t.escState, t.rxbuf, t.rsp)) =
    some (.hunt, [], [[0x0C, 0x00, 0x01, 0x00, 0x00, 0x00]]) := by decide
/-- Vectors J1, J7, J10, J21, J4. -/
theorem test_pjonBuild_crc8 : answers [0x50, 0x00, 0x06, 0x00, 0x02, 0x00, 0x02, 0x00, 0x00] = some [[0x00, 0x00, 0x00, 0x01, 0x00, 0x0C, 0x0A, 0x02, 0x0C, 0xC4, 0x01, 0x00, 0x02, 0x00, 0x02, 0x00, 0x00, 0xC7]] := by decide +kernel
theorem test_pjonBuild_crc32 : answers [0x50, 0x00, 0x0A, 0x00, 0x00, 0x00, 0x00, 0x00, 0x00, 0x00, 0x00, 0x00, 0x00] = some [[0x00, 0x00, 0x00, 0x01, 0x00, 0x13, 0x0A, 0x22, 0x13, 0xC7, 0x01, 0x00, 0x00, 0x00, 0x00, 0x00, 0x00, 0x00, 0x00, 0x00, 0x00, 0x70, 0xA9, 0xE6, 0xCF]] := by decide +kernel
theorem test_pjonParse_ok : answers [0x51, 0x00, 0x09, 0x01, 0x02, 0x09, 0xF0, 0x0A, 0x03, 0x00, 0x0B, 0xF1] = some [[0x00, 0x00, 0x00, 0x01, 0x00, 0x03, 0x03, 0x00, 0x0B]] := by decide +kernel
theorem test_pjonParse_remote : answers [0x51, 0x00, 0x07, 0x01, 0x02, 0x07, 0x19, 0x0A, 0x05, 0x56] = some [[0x0A, 0x00, 0x05, 0x00, 0x00, 0x00]] := by decide +kernel
theorem test_pjonSend : (cmd State.reset [0x52, 0x00, 0x03, 0x95, 0xEA, 0xBB]).map State.lineTx =
    some (([0x95, 0x0A, 0x02, 0x09, 0x04, 0x01, 0xBB, 0x2E, 0xBB, 0x51, 0xBB, 0x00, 0xED, 0xEA] : Bytes).map .byteOut) := by decide +kernel
theorem test_pjonRecv : (cmd State.reset [0x53, 0x00, 0x00, 0x00, 0x64, 0xFF, 0xFF]).map (fun t => (t.pjfRxstate, t.pjfTimer, t.rsp)) =
    some (.listen, 100, []) := by decide
/-- Vectors G1, G2, G3, G5, G6, G4. -/
theorem test_s9Psel : answers [0x60, 0x00, 0x02] = some [[0x00, 0x00, 0x00, 0x01, 0x00, 0x01, 0x01]] := by decide
theorem test_s9Psel_mark : (cmd (State.ofParams { Config.defaultParams with spacemark := true }) [0x60, 0x01, 0x00]).map State.rsp =
    some [[0x00, 0x00, 0x00, 0x01, 0x00, 0x01, 0x02]] := by decide
theorem test_s9Build : answers [0x61, 0x00, 0x0B] = some [[0x00, 0x00, 0x00, 0x01, 0x00, 0x02, 0x04, 0x16]] := by decide
theorem test_s9Parse_ok : answers [0x62, 0x06, 0x06] = some [[0x00, 0x00, 0x00, 0x01, 0x00, 0x02, 0x01, 0x03]] := by decide
theorem test_s9Parse_bad : (cmd State.reset [0x62, 0x02, 0x06]).map (fun t => (t.s9Ferr, t.errKind, t.errInfo)) =
    some (true, .malformedFrame, 0x0206) := by decide
theorem test_s9Tx : (cmd State.reset [0x63, 0x01, 0x00]).map (fun t => (t.lineTx, t.s9Pmode)) =
    some ([.pmode .odd, .char 0x600, .flush], .known .odd) := by decide
/-- Vectors H2, H3, H7, H8, H5, H13. -/
theorem test_t9Build : answers [0x70, 0x00, 0x01, 0xAA] = some [[0x00, 0x00, 0x00, 0x01, 0x00, 0x03, 0xAA, 0x00, 0xAA]] := by decide
theorem test_t9Build_empty : answers [0x70, 0x00, 0x00] = some [[0x0E, 0x00, 0x00, 0x00, 0x00, 0x00]] := by decide
theorem test_t9Val_trim : answers [0x71, 0x00, 0x03, 0x00, 0x07, 0x03, 0x00, 0x0B, 0x00, 0x0E, 0x55, 0xAA] = some [[0x00, 0x00, 0x00, 0x01, 0x00, 0x03, 0x03, 0x00, 0x0B]] := by decide
theorem test_t9Val_bad : answers [0x71, 0xFF, 0xFF, 0x00, 0x07, 0x03, 0x00, 0x0B, 0x00, 0x0E, 0x55, 0xAA] = some [[0x02, 0x00, 0x1C, 0x00, 0x00, 0x00]] := by decide
theorem test_t9Send : (cmd State.reset [0x72, 0x00, 0x01, 0xAA]).map State.lineTx =
    some [.pmode .odd, .char 0x754, .flush, .delay 1, .pmode .even, .char 0x400, .flush, .delay 1,
      .pmode .even, .char 0x554, .flush, .delay 1] := by decide
theorem test_t9Recv : (cmd State.reset [0x73, 0x00, 0x00, 0x03, 0xE8, 0x00, 0x03]).map (fun t => (t.t9State, t.t9Timer, t.t9Explen, t.rsp)) =
    some (.waitFirst, 1000, some 3, []) := by decide
/-- Vectors K2, K5, K6, K7, and R304's corner cases. -/
theorem test_pktEnc : answers [0x80, 0x01, 0x03, 0x12, 0x34, 0xAB, 0xCD] = some [[0x00, 0x00, 0x00, 0x01, 0x00, 0x06, 0x01, 0x03, 0x12, 0x34, 0xAB, 0xCD]] := by decide
theorem test_pktEnc_port : answers [0x80, 0x0A, 0x02, 0x00, 0x00, 0x00, 0x00] = some [[0x0E, 0x00, 0x00, 0x00, 0x00, 0x00]] := by decide
theorem test_pktRsp_ok : answers [0x81, 0x00, 0x03, 0x03, 0x00, 0x0B] = some [[0x00, 0x00, 0x00, 0x01, 0x00, 0x02, 0x00, 0x0B]] := by decide
theorem test_pktRsp_rejected : answers [0x81, 0x00, 0x02, 0x83, 0x00] = some [[0x07, 0x00, 0x03, 0x00, 0x00, 0x00]] := by decide
theorem test_pktU16_ok : answers [0x82, 0x00, 0x02, 0x00, 0x0B] = some [[0x00, 0x00, 0x00, 0x01, 0x00, 0x02, 0x00, 0x0B]] := by decide
theorem test_pktU16_long : answers [0x82, 0x00, 0x03, 0x00, 0x0B, 0x00] = some [[0x0B, 0x00, 0x03, 0x00, 0x00, 0x00]] := by decide
/-- Programs P2, P1 and P5: what the first event leaves. -/
theorem test_xchSend : (cmd (small .pjon) [0x90, 0x01, 0x04, 0x00, 0x01, 0x00, 0x00, 0xFF, 0xFF]).map (fun t => (t.txbuf, t.xchState, t.xchExplen, t.pjfRxstate)) =
    some ([0x0A, 0x02, 0x0C, 0xC4, 0x01, 0x01, 0x04, 0x00, 0x01, 0x00, 0x00, 0x6C], .awaitingResponse, none, .listen) := by
  decide +kernel
theorem test_xchQuery : (cmd (small .ser9) [0x91, 0x00, 0x00, 0x02, 0x00, 0x00]).map (fun t => (t.xchReq, t.t9Explen, t.t9State, t.xchAttempts)) =
    some (0x000200020000, some 3, .waitFirst, 1) := by decide
theorem test_xchControl : (cmd (small .ser9) [0x92, 0x01, 0x12, 0x34, 0xAB, 0xCD]).map (fun t => (t.txbuf, t.t9Explen, t.s9Pmode)) =
    some ([0x01, 0x03, 0x12, 0x34, 0xAB, 0xCD, 0x01, 0xC2], none, .known .odd) := by decide

/-! ## One step of every other event -/

/-- A 9-bit receive inside an exchange, in the middle of its capture. -/
def collecting (rx : Bytes) : State :=
  { small .ser9 with
    xchState := .awaitingResponse, xchOp := .query, xchAttempts := 1, xchExplen := some 2
    t9State := .collect, t9Timer := 1, t9Explen := some 3, rxbuf := rx, rxtag := rx.map fun _ => false }

/-- One step of a state with one pending event. -/
def event (s : State) (e : Event) : Option State :=
  match step { s with events := [e] } with
  | .next t => some t
  | .fault _ => none
  | .refused _ => none

/-- The last tick of program P1. -/
theorem test_tick_ends_query : (event (collecting [0x03, 0x00, 0x0B, 0x00, 0x0E]) .tick).map
    (fun t => (t.xchState, t.xchResp, t.rsp)) =
    some (.done, [0x00, 0x0B], [[0x00, 0x00, 0x00, 0x01, 0x00, 0x02, 0x00, 0x0B]]) := by decide
/-- A damaged response is retried (program P4), a short one is not (vector X4). -/
theorem test_tick_retries : (event (collecting [0x03, 0x00, 0x0F, 0x00, 0x0E]) .tick).map
    (fun t => (t.xchState, t.xchRetries, t.errInfo, t.rsp)) = some (.awaitingResponse, 1, 0x0012, []) := by decide
theorem test_tick_short_not_retried : (event (collecting [0x03, 0x00]) .tick).map
    (fun t => (t.xchState, t.xchAttempts, t.rsp)) =
    some (.failed, 1, [[0x05, 0x00, 0x02, 0x00, 0x00, 0x00]]) := by decide
theorem test_rxChar_stored : (event (collecting [0x03]) (.rxChar 0x606)).map (fun t => (t.rxbuf, t.rxtag, t.t9Timer)) =
    some ([0x03, 0x03], [false, true], 1) := by decide
theorem test_rxChar_malformed : (event (collecting [0x03]) (.rxChar 0x206)).map (fun t => (t.rxbuf, t.s9Ferr)) =
    some ([0x03], true) := by decide
theorem test_rxChar_queued : (event State.reset (.rxChar 0x606)).map State.rxq = some [.char 0x606] := by decide
theorem test_rxByte_queued : (event State.reset (.rxByte 0x95)).map State.rxq = some [.byte 0x95] := by decide
theorem test_powerOn_illegal :
    step { State.reset with events := [.powerOn { Config.defaultParams with maxbuf := 254 }] } =
      .refused .illegalParameters := rfl
theorem test_none_pending : step State.reset = .next State.reset := rfl
theorem test_withFetchWord : (match step (State.reset.withFetchWord 8 0x20) with
    | .next t => some t.rsp
    | .fault _ => none
    | .refused _ => none) = some [[0x00, 0x00, 0x00, 0x02, 0x00, 0x00]] := by decide

/-! ## Witnesses: a state and operands that meet the hypotheses of each statement that has any -/

def busyT9 : State := { State.reset with t9State := .waitFirst, t9Timer := 1 }
def busyPjf : State := { State.reset with pjfRxstate := .listen, pjfTimer := 1, pjfTimeout := 1 }
def busyXch : State := { collecting [] with t9State := .waitFirst }

theorem test_witness_StepRunsDecodedCommand :
    ({ busyT9 with events := [.cmd [0x10], .tick] } : State).events = .cmd [0x10] :: [.tick] ∧
      decode [0x10] = .ok .chk16Clr ∧ Instr.chk16Clr.wf = true := by decide

theorem test_witness_DecodeOfEncode :
    (Instr.xchSend 0xFF 0xFF 0xFFFF 0xFFFF (some 0xFFFE)).wf = true ∧ (Instr.t9Val none [0xFF]).wf = true ∧
      (Instr.s9Parse 0x7FF).wf = true := by decide

theorem test_witness_EncodeOfDecode :
    decode [0x71, 0xFF, 0xFF, 0x00, 0x01, 0xAB] = .ok (.t9Val none [0xAB]) := by decide

theorem test_witness_ReservedOpselRefused :
    (0x01 : Byte).toNat ∉ [0x00, 0x10, 0x11, 0x12, 0x13, 0x20, 0x21, 0x22, 0x23, 0x30, 0x31, 0x32, 0x33, 0x40, 0x41,
      0x42, 0x43, 0x50, 0x51, 0x52, 0x53, 0x60, 0x61, 0x62, 0x63, 0x70, 0x71, 0x72, 0x73, 0x80, 0x81, 0x82, 0x90, 0x91,
      0x92] ∧
    (∃ s : State, s.events = .cmd [0x01, 0x00] :: [] ∧ s.Idle) ∧
    (∃ s : State, s.events = .cmd [0x01, 0x00] :: [] ∧ ¬ s.Idle) :=
  ⟨by decide, ⟨{ State.reset with events := [.cmd [0x01, 0x00]] }, by decide⟩,
    ⟨{ busyT9 with events := [.cmd [0x01, 0x00]] }, by decide⟩⟩

theorem test_witness_MisfitCommandRefused :
    (∃ s : State, decode [0x11] = .error (.badOperands 0x11) ∧ s.events = .cmd [0x11] :: [] ∧ s.Idle) ∧
    (∃ s : State, decode [0x11] = .error (.badOperands 0x11) ∧ s.events = .cmd [0x11] :: [] ∧ ¬ s.Idle ∧
      (0x11 : Byte) ≠ 0) ∧
    (∃ s : State, decode [0x00, 0x00] = .error (.badOperands 0x00) ∧ s.events = .cmd [0x00, 0x00] :: [] ∧ ¬ s.Idle) ∧
    (∃ s : State, s.events = .cmd [] :: [] ∧ s.Idle) ∧ (∃ s : State, s.events = .cmd [] :: [] ∧ ¬ s.Idle) :=
  ⟨⟨{ State.reset with events := [.cmd [0x11]] }, by decide⟩, ⟨{ busyPjf with events := [.cmd [0x11]] }, by decide⟩,
    ⟨{ busyXch with events := [.cmd [0x00, 0x00]] }, by decide⟩, ⟨{ State.reset with events := [.cmd []] }, by decide⟩,
    ⟨{ busyT9 with events := [.cmd []] }, by decide⟩⟩

theorem test_witness_BusyRefusesEveryOperation :
    ¬ busyT9.Idle ∧ ¬ busyPjf.Idle ∧ ¬ busyXch.Idle ∧ Instr.chk16Clr ≠ .reset := by decide

theorem test_witness_IllegalOperandsRefused :
    State.reset.Idle ∧ State.reset.params.maxbuf < (List.replicate 256 (0 : Byte)).length ∧
      State.reset.params.maxbuf < (List.replicate 254 (0 : Byte)).length + 2 ∧
      246 < (List.replicate 247 (0 : Byte)).length ∧ 9 < (10 : Byte).toNat ∧ (5 : Byte).toNat ∉ [2, 3, 4, 22] := by
  simp only [List.length_replicate]; decide

theorem test_witness_PowerOnLoadsLegalParameters :
    (∃ (s : State) (p : Params), s.events = .powerOn p :: [] ∧ p.eopIdleTicks ≠ 0 ∧ p.rxTimeoutTicks ≠ 0 ∧
      255 ≤ p.maxbuf) ∧
    (∃ (s : State) (p : Params), s.events = .powerOn p :: [] ∧ p.eopIdleTicks = 0) ∧
    (∃ (s : State) (p : Params), s.events = .powerOn p :: [] ∧ p.rxTimeoutTicks = 0) ∧
    (∃ (s : State) (p : Params), s.events = .powerOn p :: [] ∧ p.maxbuf < 255) :=
  ⟨⟨{ State.reset with events := [.powerOn Config.defaultParams] }, _, rfl, by decide⟩,
    ⟨{ State.reset with events := [.powerOn { Config.defaultParams with eopIdleTicks := 0 }] }, _, rfl, rfl⟩,
    ⟨{ State.reset with events := [.powerOn { Config.defaultParams with rxTimeoutTicks := 0 }] }, _, rfl, rfl⟩,
    ⟨{ State.reset with events := [.powerOn { Config.defaultParams with maxbuf := 254 }] }, _, rfl, by decide⟩⟩

/-- The steps the clauses are about: the last tick of a receive with data, alone and inside an exchange, and a frame
that passes every check (vector J10), waiting in `RXQ` and parsed. -/
theorem test_witness_ReadsWithoutValueAreRefused :
    State.reset.xchState ≠ .done ∧ ({ State.reset with xchState := .done } : State).xchState = .done ∧
    (∃ s s' : State, s.ReceivesConsistent ∧ (s.t9State ≠ .off ∨ s.pjfRxstate = .listen) ∧
      s.xchState ≠ .awaitingResponse ∧ step s = .next s' ∧ s'.readRxbuf ≠ none) ∧
    (∃ s s' : State, s.ReceivesConsistent ∧ (s.t9State ≠ .off ∨ s.pjfRxstate = .listen) ∧
      s.xchState = .awaitingResponse ∧ step s = .next s' ∧ s'.readRxbuf ≠ none) ∧
    (∃ s s' : State, s.Idle ∧ step s = .next s' ∧ s.readRxbuf = none ∧ s'.readRxbuf ≠ none) ∧
    (∃ s s' : State, step s = .next s' ∧ s.readPjfSender = none ∧ s'.readPjfSender ≠ none) ∧ State.reset.Idle :=
  ⟨by decide, rfl,
    ⟨{ collecting [0x03, 0x00, 0x0B, 0x00, 0x0E] with xchState := .idle, events := [.tick] }, _, by decide, by decide,
      by decide, rfl, by decide⟩,
    ⟨{ collecting [0x83, 0x00, 0x00, 0x83] with events := [.tick] }, _, by decide, by decide, by decide, rfl,
      by decide⟩,
    ⟨{ State.reset with
        rxq := (sfspWrap [0x01, 0x02, 0x09, 0xF0, 0x0A, 0x03, 0x00, 0x0B, 0xF1]).map .byte
        events := [.cmd [0x53, 0x00, 0x00, 0x00, 0x01, 0xFF, 0xFF]] }, _, by decide, rfl, rfl, by decide +kernel⟩,
    ⟨{ State.reset with events := [.cmd [0x51, 0x00, 0x09, 0x01, 0x02, 0x09, 0xF0, 0x0A, 0x03, 0x00, 0x0B, 0xF1]] }, _,
      rfl, rfl, by decide +kernel⟩, by decide⟩

/-- A state in the middle of an exchange that meets every invariant, and takes a step. -/
theorem test_witness_invariants : ∃ s s' : State, s.ConfigLoaded ∧ s.Chk16InRange ∧ s.BuffersBounded ∧
    s.ReceivesConsistent ∧ s.ExchangeConsistent ∧ step s = .next s' ∧ ∀ p rest, s.events ≠ .powerOn p :: rest :=
  ⟨{ collecting [0x03] with events := [.rxChar 0x400] }, _, by decide, by decide, by decide, by decide, by decide, rfl,
    fun _ _ h => by cases h⟩

theorem test_witness_StepKeepsConfiguration : ∃ s s' : State, s.ConfigLoaded ∧ step s = .next s' ∧
    ∀ p rest, s.events ≠ .powerOn p :: rest :=
  ⟨{ collecting [0x03] with events := [.rxChar 0x400] }, _, by decide, rfl, fun _ _ h => by cases h⟩

theorem test_witness_StepKeepsChk16InRange : ∃ s s' : State, s.Chk16InRange ∧ step s = .next s' :=
  ⟨{ State.reset with chk16Acc := 0xFFFE, events := [.cmd [0x11, 0x01]] }, _, by decide, rfl⟩

theorem test_witness_StepKeepsBuffersBounded : ∃ s s' : State, s.ConfigLoaded ∧ s.BuffersBounded ∧ step s = .next s' :=
  ⟨{ collecting [0x03] with events := [.rxChar 0x400] }, _, by decide, by decide, rfl⟩

theorem test_witness_StepKeepsReceivesAndExchange : ∃ s s' : State, s.ConfigLoaded ∧ s.ReceivesConsistent ∧
    s.ExchangeConsistent ∧ step s = .next s' :=
  ⟨{ collecting [0x03] with events := [.tick] }, _, by decide, by decide, by decide, rfl⟩

theorem test_witness_ErrorAnswersCarryNoData : ∃ s s' : State, step s = .next s' :=
  ⟨{ collecting [0x03] with events := [.cmd [0x0F]] }, _, rfl⟩

theorem test_witness_Chk16ClearAndUpdate : ∃ s : State, s.Idle ∧ s.Chk16InRange ∧ s.chk16Acc = 65534 :=
  ⟨{ State.reset with chk16Acc := 0xFFFE }, by decide⟩

/-- The lengths at which the byte-string statements of CHK16.GEN, CRC8.GEN, CRC32.GEN and the codec change clause. -/
theorem test_witness_string_lengths :
    State.reset.Idle ∧ (List.replicate 255 (0 : Byte)).length ≤ State.reset.params.maxbuf ∧
      State.reset.params.maxbuf < (List.replicate 256 (0 : Byte)).length ∧
      (List.replicate 65535 (0 : Byte)).length < 65536 := by
  simp only [List.length_replicate]; decide

theorem test_witness_Chk16GenReturnsSum :
    State.reset.Idle ∧ (List.replicate 255 (0xFF : Byte)).length ≤ State.reset.params.maxbuf ∧
      State.reset.params.maxbuf < (List.replicate 256 (0xFF : Byte)).length ∧
      (List.replicate 65535 (0 : Byte)).length < 65536 := by
  simp only [List.length_replicate]; decide

theorem test_witness_Chk16ValChecksFrame :
    State.reset.Idle ∧ ([0x00, 0x00] : Bytes).length < 3 ∧ ([0x00] : Bytes) ≠ [] ∧
      byteSum [0x00] % 65535 = (0x00 : Byte).toNat * 256 + (0x00 : Byte).toNat ∧
      byteSum [0x12] % 65535 ≠ (0xFF : Byte).toNat * 256 + (0xFF : Byte).toNat ∧
      ([0x00, 0x00] : Bytes).length < 65536 := by decide

theorem test_witness_Chk16DetectsSingleBitFlips :
    State.reset.Idle ∧ ([0xFF] : Bytes) ≠ [] ∧ 0 < ([0xFF] : Bytes).length + 2 ∧ 2 < ([0xFF] : Bytes).length + 2 ∧
      0 < 8 ∧ 7 < 8 := by decide

theorem test_witness_Crc8ClearUpdateGenerate :
    State.reset.Idle ∧ (List.replicate 255 (0 : Byte)).length ≤ State.reset.params.maxbuf ∧
      State.reset.params.maxbuf < (List.replicate 256 (0 : Byte)).length ∧
      (List.replicate 65535 (0 : Byte)).length < 65536 := test_witness_string_lengths

theorem test_witness_Crc8ValVerdict : State.reset.Idle ∧ ([] : Bytes).length < 65536 := by decide

theorem test_witness_Crc32ClearUpdateGenerate :
    State.reset.Idle ∧ (List.replicate 255 (0 : Byte)).length ≤ State.reset.params.maxbuf ∧
      State.reset.params.maxbuf < (List.replicate 256 (0 : Byte)).length ∧
      (List.replicate 65535 (0 : Byte)).length < 65536 := test_witness_string_lengths

theorem test_witness_Crc32ValVerdict :
    State.reset.Idle ∧ ([0, 0, 0] : Bytes).length < 4 ∧ ([0, 0, 0] : Bytes).length < 65536 := by decide

theorem test_witness_StreamedUpdatesEqualGenerate : State.reset.Idle ∧ ([0x31] : Bytes) ≠ [] := by decide

theorem test_witness_EscapeOperations :
    State.reset.Idle ∧ (List.replicate 255 (0 : Byte)).length ≤ State.reset.params.maxbuf ∧
      unescape [0xBB, 0x41] = .ok [0xFA] ∧ unescape [0xBB] = .error 0 := by
  simp only [List.length_replicate]; decide

theorem test_witness_UnescapeStopsAtFirstMalformation :
    ((0x95 : Byte) = 0x95 ∨ (0x95 : Byte) = 0xEA) ∧ ((0xEA : Byte) = 0x95 ∨ (0xEA : Byte) = 0xEA) := by decide

/-- Every clause of the deframer's table is met: the three states, a byte of each kind, a buffer with one free place and
a full one. -/
theorem test_witness_DeframerTable :
    (∃ s : State, s.Idle ∧ s.escState = .hunt ∧ (0xEA : Byte) ≠ 0x95) ∧
    (∃ s : State, s.Idle ∧ s.escState = .body ∧ s.rxbuf.length + 1 = s.params.maxbuf ∧
      (0x94 : Byte) ≠ 0x95 ∧ (0x94 : Byte) ≠ 0xEA ∧ (0x94 : Byte) ≠ 0xBB) ∧
    (∃ s : State, s.Idle ∧ s.escState = .body ∧ s.rxbuf.length = s.params.maxbuf) ∧
    (∃ s : State, s.Idle ∧ s.escState = .escaped ∧ s.rxbuf.length + 1 = s.params.maxbuf ∧
      (0xBB : Byte) ≠ 0x95 ∧ (0xBB : Byte) ≠ 0xEA ∧ (0x00 : Byte) = 0xBB ^^^ 0xBB) ∧
    (∃ s : State, s.Idle ∧ s.escState = .escaped ∧ s.rxbuf.length = s.params.maxbuf) :=
  ⟨⟨State.reset, by decide⟩,
    ⟨{ State.reset with escState := .body, rxbuf := List.replicate 254 0 }, by decide, rfl,
      congrArg (· + 1) List.length_replicate, by decide⟩,
    ⟨{ State.reset with escState := .body, rxbuf := List.replicate 255 0 }, by decide, rfl, List.length_replicate⟩,
    ⟨{ State.reset with escState := .escaped, rxbuf := List.replicate 254 0 }, by decide, rfl,
      congrArg (· + 1) List.length_replicate, by decide⟩,
    ⟨{ State.reset with escState := .escaped, rxbuf := List.replicate 255 0 }, by decide, rfl, List.length_replicate⟩⟩

theorem test_witness_DeframerRecoversWrappedFrame : ∃ (s : State) (f : Bytes), s.Idle ∧ f.length = s.params.maxbuf :=
  ⟨{ State.reset with escState := .escaped }, List.replicate 255 0xBB, by decide, List.length_replicate⟩

/-- The payload lengths at which `PJON.BUILD` changes clause: 9, 10, 246 and 247. -/
theorem test_witness_PjonBuildLayout :
    State.reset.Idle ∧ (List.replicate 9 (0 : Byte)).length ≤ 9 ∧ 10 ≤ (List.replicate 10 (0 : Byte)).length ∧
      (List.replicate 246 (0 : Byte)).length ≤ 246 ∧ 247 ≤ (List.replicate 247 (0 : Byte)).length ∧
      (List.replicate 65535 (0 : Byte)).length < 65536 := by
  simp only [List.length_replicate]; decide

theorem test_witness_PjonSendEmitsWrappedFrame :
    State.reset.Idle ∧ (List.replicate 246 (0 : Byte)).length ≤ 246 ∧ 247 ≤ (List.replicate 247 (0 : Byte)).length ∧
      (List.replicate 65535 (0 : Byte)).length < 65536 := by
  simp only [List.length_replicate]; decide

/-- A payload of one zero byte, the longest payload, and both ways of being addressed. -/
theorem test_witness_PjonParseRecoversBuiltFrame :
    State.reset.Idle ∧ (List.replicate 246 (7 : Byte)).length ≤ 246 ∧
      ((0x01 : Byte) = State.reset.cfg.deviceId ∨ (0x01 : Byte) = 0x00) ∧
      ((0x00 : Byte) = State.reset.cfg.deviceId ∨ (0x00 : Byte) = 0x00) ∧
      (∀ b : Byte, ([0] : Bytes) = [b] → b = 0) ∧ (∀ b : Byte, List.replicate 246 (7 : Byte) = [b] → b = 0) := by
  refine ⟨by decide, by simp only [List.length_replicate]; decide, by decide, by decide, ?_, ?_⟩
  · intro b h; cases h; rfl
  · intro b h
    have hl := congrArg List.length h
    rw [List.length_replicate] at hl
    exact absurd hl (by simp)

theorem test_witness_PjonParseVerdict : State.reset.Idle := by decide

/-- A frame that the parse returns (vector J10). -/
theorem test_witness_PjonParseReturnsOnlyCheckedFrames : State.reset.Idle ∧
    ∃ t : State, exec (.pjonParse [0x01, 0x02, 0x09, 0xF0, 0x0A, 0x03, 0x00, 0x0B, 0xF1]) State.reset = .next t ∧
      t.errKind = .none :=
  ⟨by decide, _, rfl, by decide +kernel⟩

/-- A receive that listens, with a byte of each kind in each state of the deframer, a buffer with one free place and a
full one, and a tick that is not the last and one that is. -/
theorem test_witness_PjonRecvStartsListening :
    (State.reset.Idle ∧ (1 : BitVec 32) ≠ 0 ∧ State.reset.rxq = []) ∧
    (∀ (b : Byte) (e : EscState), ∃ s : State, s.xchState = .idle ∧ s.t9State = .off ∧ s.pjfRxstate = .listen ∧
      s.events = .rxByte b :: [] ∧ s.escState = e) ∧
    (∃ s : State, s.pjfRxstate = .listen ∧ s.escState = .escaped ∧ (0xBB : Byte) ≠ 0x95 ∧ (0xBB : Byte) ≠ 0xEA ∧
      (0x00 : Byte) = 0xBB ^^^ 0xBB ∧ s.rxbuf.length + 1 = s.params.maxbuf) ∧
    (∃ s : State, s.pjfRxstate = .listen ∧ s.escState = .body ∧ (0x94 : Byte) ≠ 0x95 ∧ (0x94 : Byte) ≠ 0xEA ∧
      (0x94 : Byte) ≠ 0xBB ∧ s.rxbuf.length = s.params.maxbuf) ∧
    (∃ s : State, s.xchState = .idle ∧ s.t9State = .off ∧ s.pjfRxstate = .listen ∧ s.events = .tick :: [] ∧
      s.pjfTimer ≠ 1) ∧
    (∃ s : State, s.xchState = .idle ∧ s.t9State = .off ∧ s.pjfRxstate = .listen ∧ s.events = .tick :: [] ∧
      s.pjfTimer = 1) :=
  ⟨by decide, fun b e => ⟨{ busyPjf with escState := e, events := [.rxByte b] }, rfl, rfl, rfl, rfl, rfl⟩,
    ⟨{ busyPjf with escState := .escaped, rxbuf := List.replicate 254 0 }, rfl, rfl, by decide, by decide, by decide,
      congrArg (· + 1) List.length_replicate⟩,
    ⟨{ busyPjf with escState := .body, rxbuf := List.replicate 255 0 }, rfl, rfl, by decide, by decide, by decide,
      List.length_replicate⟩,
    ⟨{ busyPjf with pjfTimer := 2, events := [.tick] }, by decide⟩, ⟨{ busyPjf with events := [.tick] }, by decide⟩⟩

/-- The hypotheses of a paced PJON receive with bytes `bs`, each after one tick of a timeout of 2. -/
theorem pjonRecv_witness (bs : Bytes) (tail : List Event) :
    ∃ (s : State) (l : List (Nat × Byte)) (q : Bytes → Bool → State),
      s.Idle ∧ (2 : BitVec 32) ≠ 0 ∧ (none : Option (BitVec 16)) ≠ some 0xFFFF ∧ s.rxq = [] ∧
      (∀ x ∈ l, x.1 < (2 : BitVec 32).toNat) ∧
      s.events = .cmd (encode (.pjonRecv 2 none)) :: (pacedBytes l ++ tail) ∧
      (∀ f valid, q f valid = { s with
        events := [], rxbuf := f, rxtag := List.replicate f.length false, rxbufValid := valid
        escState := .hunt, pjfTimer := 2, pjfTimeout := 2 }) ∧
      s.params.maxbuf = 255 ∧ s.cfg.deviceId = 0x01 ∧ l.map Prod.snd = bs :=
  ⟨{ State.reset with
      escState := .body
      events := .cmd (encode (.pjonRecv 2 none)) :: (pacedBytes (bs.map fun b => (1, b)) ++ tail) },
    bs.map fun b => (1, b), fun _ _ => _, ⟨.inl rfl, rfl, rfl⟩, by decide, by decide, rfl,
    (fun x hx => by
      obtain ⟨b, -, rfl⟩ := List.mem_map.1 hx
      exact (by decide : 1 < (2 : BitVec 32).toNat)), rfl, fun _ _ => rfl, rfl, rfl,
    by simp [Function.comp_def]⟩

/-- What the clauses ask of the bytes: frames with each kind of verdict (vectors J10, J13, J20), a payload, the longest
partial frame and one byte more; `pjonRecv_witness` meets the hypotheses for any of them. -/
theorem test_witness_PjonRecvDeliversPayload :
    pjonVerdict 0x01 [0x01, 0x02, 0x09, 0xF0, 0x0A, 0x03, 0x00, 0x0B, 0xF1] = none ∧
    pjonVerdict 0x01 [0x07, 0x02, 0x09, 0x56, 0x0A, 0x03, 0x00, 0x0B, 0xF1] = some (.notAddressedToUs, 0x07) ∧
    pjonVerdict 0x01 [0x01, 0x02, 0x09, 0xF0, 0x0A, 0x03, 0x00, 0x0B, 0xF2] = some (.payloadCrcMismatch, 0xF1) ∧
    255 ≤ 255 ∧ (List.replicate 246 (7 : Byte)).length ≤ 246 ∧ ((0x01 : Byte) = 0x01 ∨ (0x01 : Byte) = 0x00) ∧
    (∀ b : Byte, ([0] : Bytes) = [b] → b = 0) ∧
    (List.replicate 255 (0xBB : Byte)).length ≤ 255 ∧ (List.replicate 256 (0 : Byte)).length = 255 + 1 := by
  refine ⟨by decide +kernel, by decide +kernel, by decide +kernel, by decide, by simp only [List.length_replicate]; decide,
    by decide, fun b h => by cases h; rfl, ?_, List.length_replicate⟩
  simp only [List.length_replicate]; decide

theorem test_witness_SilentReceiveTimesOut : ∃ (s : State) (e : Option (BitVec 16)) (i : Instr),
    s.Idle ∧ (1 : BitVec 32) ≠ 0 ∧ e ≠ some 0xFFFF ∧ s.rxq = [] ∧ (i = .t9Recv 1 e ∨ i = .pjonRecv 1 e) ∧
      s.events = .cmd (encode i) :: List.replicate (1 : BitVec 32).toNat .tick :=
  ⟨{ State.reset with events := [.cmd (encode (.pjonRecv 1 none)), .tick] }, none, .pjonRecv 1 none, by decide,
    by decide, by decide, rfl, .inr rfl, rfl⟩

theorem test_witness_ReceivesTakeStaleInputFirst :
    (∃ s : State, s.Idle ∧ (1 : BitVec 32) ≠ 0 ∧ s.rxq = ([0x606, 0x000] : List (BitVec 11)).map .char) ∧
    (∃ s : State, s.Idle ∧ (1 : BitVec 32) ≠ 0 ∧ s.rxq = ([0x95, 0xEA, 0x95] : Bytes).map .byte) ∧
    (∃ s : State, s.Idle ∧ s.rxq = [.byte 0x95, .char 0x606, .byte 0xEA, .char 0x000, .byte 0x95]) :=
  ⟨⟨{ State.reset with rxq := [.char 0x606, .char 0x000] }, by decide⟩,
    ⟨{ State.reset with rxq := [.byte 0x95, .byte 0xEA, .byte 0x95] }, by decide⟩,
    ⟨{ State.reset with rxq := [.byte 0x95, .char 0x606, .byte 0xEA, .char 0x000, .byte 0x95] }, by decide⟩⟩

theorem test_witness_IdleBlockQueuesInput :
    (∃ s : State, s.Idle ∧ s.events = [.tick]) ∧ (∃ s : State, s.Idle ∧ s.events = [.rxChar 0x606]) ∧
      (∃ s : State, s.Idle ∧ s.events = [.rxByte 0x95]) ∧ (∃ s : State, s.Idle ∧ s.events = []) :=
  ⟨⟨{ State.reset with events := [.tick] }, by decide⟩, ⟨{ State.reset with events := [.rxChar 0x606] }, by decide⟩,
    ⟨{ State.reset with events := [.rxByte 0x95] }, by decide⟩, ⟨State.reset, by decide⟩⟩

theorem test_witness_SerialSymbolOperations :
    (∃ s : State, s.Idle ∧ s.cfg.spacemark = true) ∧ (∃ s : State, s.Idle ∧ s.cfg.spacemark = false) :=
  ⟨⟨State.ofParams { Config.defaultParams with spacemark := true }, by decide⟩, ⟨State.reset, by decide⟩⟩

theorem test_witness_SerialParseInvertsBuild : State.reset.Idle ∧ ∀ a d, (0x000 : BitVec 11) ≠ symbolChar a d :=
  ⟨by decide, by decide⟩

/-- One byte, the longest data, one byte more, and none. -/
theorem test_witness_NineBitBuildAndSend :
    State.reset.Idle ∧ ([0xAA] : Bytes) ≠ [] ∧ ([0xAA] : Bytes).length + 2 ≤ State.reset.params.maxbuf ∧
      (List.replicate 253 (0 : Byte)).length + 2 ≤ State.reset.params.maxbuf ∧
      State.reset.params.maxbuf < (List.replicate 254 (0 : Byte)).length + 2 ∧ ([] : Bytes) = [] ∧
      (List.replicate 65535 (0 : Byte)).length < 65536 := by
  simp only [List.length_replicate]; decide

/-- A trimmed capture that is too short, one that is valid and one that is not (vectors H9, H7, H8). -/
theorem test_witness_NineBitValidateTrims :
    State.reset.Idle ∧ (some 0xFFFE : Option (BitVec 16)) ≠ some 0xFFFF ∧
      (([0x03, 0x00, 0x0B, 0x00, 0x0E] : Bytes).take ((0 : BitVec 16).toNat + 2)).length < 3 ∧
      ([0x03, 0x00, 0x0B, 0x00, 0x0E, 0x55, 0xAA] : Bytes).take ((3 : BitVec 16).toNat + 2) =
        [0x03, 0x00, 0x0B] ++ [0x00, 0x0E] ∧ chk16 [0x03, 0x00, 0x0B] = u16be 0x00 0x0E ∧
      ([0x03, 0x00, 0x0B, 0x00, 0x0E, 0x55, 0xAA] : Bytes) = [0x03, 0x00, 0x0B, 0x00, 0x0E] ++ [0x55, 0xAA] ∧
      chk16 [0x03, 0x00, 0x0B, 0x00, 0x0E] ≠ u16be 0x55 0xAA := by decide

theorem test_witness_NineBitReceiveCollects :
    (State.reset.Idle ∧ (1 : BitVec 32) ≠ 0 ∧ State.reset.rxq = []) ∧
    (∃ s : State, s.t9State ≠ .off ∧ s.events = .rxChar (symbolChar true 0x03) :: [] ∧
      s.rxbuf.length + 1 = s.params.maxbuf) ∧
    (∃ s : State, s.t9State ≠ .off ∧ s.events = .rxChar (symbolChar true 0x03) :: [] ∧
      s.rxbuf.length = s.params.maxbuf) ∧
    (∃ s : State, s.t9State ≠ .off ∧ (∀ a d, (0x206 : BitVec 11) ≠ symbolChar a d) ∧
      s.events = .rxChar 0x206 :: []) ∧
    (∃ s : State, s.t9State ≠ .off ∧ s.events = .tick :: [] ∧ s.t9Timer ≠ 1) ∧
    (∃ s : State, s.t9State = .waitFirst ∧ s.events = .tick :: [] ∧ s.t9Timer = 1 ∧ s.xchState = .idle) :=
  ⟨by decide,
    ⟨{ busyT9 with rxbuf := List.replicate 254 0, events := [.rxChar (symbolChar true 0x03)] }, by decide, rfl,
      congrArg (· + 1) List.length_replicate⟩,
    ⟨{ busyT9 with rxbuf := List.replicate 255 0, events := [.rxChar (symbolChar true 0x03)] }, by decide, rfl,
      List.length_replicate⟩,
    ⟨{ busyT9 with events := [.rxChar 0x206] }, by decide, by decide, rfl⟩,
    ⟨{ busyT9 with t9Timer := 2, events := [.tick] }, by decide⟩, ⟨{ busyT9 with events := [.tick] }, by decide⟩⟩

/-- The hypotheses of a paced 9-bit receive with symbols `syms`, of which there is at least one. -/
theorem t9Recv_witness (e : Option (BitVec 16)) (he : e ≠ some 0xFFFF) (sym : Bool × Byte) (syms : List (Bool × Byte)) :
    ∃ (s : State) (l : List (Nat × Bool × Byte)) (captured g : Bytes) (q : BitVec 16 → Bool → State),
      s.Idle ∧ (2 : BitVec 32) ≠ 0 ∧ e ≠ some 0xFFFF ∧ s.rxq = [] ∧ s.cfg.eopIdle ≠ 0 ∧ l ≠ [] ∧
      (∀ x, l.head? = some x → x.1 < (2 : BitVec 32).toNat) ∧ (∀ x ∈ l.tail, x.1 < s.cfg.eopIdle.toNat) ∧
      s.events = .cmd (encode (.t9Recv 2 e)) :: (pacedSymbols l ++ List.replicate s.cfg.eopIdle.toNat .tick) ∧
      captured = (l.map fun x => x.2.2).take s.params.maxbuf ∧
      g = (match e with
        | some v => captured.take (v.toNat + 2)
        | none => captured) ∧
      (∀ acc valid, q acc valid = { s with
        events := [], rxbuf := g, rxtag := (l.map fun x => x.2.1).take g.length, rxbufValid := valid
        t9Timer := 0, t9Explen := e, t9Ovf := decide (s.params.maxbuf < l.length), chk16Acc := acc }) ∧
      l.map Prod.snd = sym :: syms :=
  ⟨{ State.reset with
      events := .cmd (encode (.t9Recv 2 e)) ::
        (pacedSymbols ((1, sym) :: syms.map fun x => (19, x)) ++ List.replicate 20 .tick) },
    (1, sym) :: syms.map fun x => (19, x), _, _, fun _ _ => _, ⟨.inl rfl, rfl, rfl⟩, by decide, he, rfl,
    (by decide : State.reset.cfg.eopIdle ≠ 0),
    List.cons_ne_nil _ _, (fun x hx => by cases hx; exact (by decide : 1 < (2 : BitVec 32).toNat)),
    (fun x hx => by
      obtain ⟨y, -, rfl⟩ := List.mem_map.1 hx
      exact (by decide : 19 < State.reset.cfg.eopIdle.toNat)),
    rfl, rfl, rfl, fun _ _ => rfl, by simp [Function.comp_def]⟩

/-- Captures of each kind after trimming (vectors H9, H7, H8): too short, valid, damaged; and a frame as a peer sends
it. -/
theorem test_witness_NineBitReceiveDeliversData :
    (([0x03, 0x00, 0x0B, 0x00, 0x0E] : Bytes).take ((0 : BitVec 16).toNat + 2)).length < 3 ∧
    ([0x03, 0x00, 0x0B, 0x00, 0x0E, 0x55, 0xAA] : Bytes).take ((3 : BitVec 16).toNat + 2) =
      [0x03, 0x00, 0x0B] ++ [0x00, 0x0E] ∧ chk16 [0x03, 0x00, 0x0B] = u16be 0x00 0x0E ∧
    chk16 [0x03, 0x00, 0x0B, 0x00, 0x0E] ≠ u16be 0x55 0xAA ∧
    ∃ (s : State) (e : Option (BitVec 16)) (d : Bytes),
      s.Idle ∧ (1 : BitVec 32) ≠ 0 ∧ e ≠ some 0xFFFF ∧ s.rxq = [] ∧ s.cfg.eopIdle ≠ 0 ∧ d ≠ [] ∧
      d.length + 2 ≤ s.params.maxbuf ∧ (∀ v, e = some v → d.length ≤ v.toNat) ∧
      s.events = .cmd (encode (.t9Recv 1 e)) ::
        ((frameChars (d ++ be16 (chk16 d))).map .rxChar ++ List.replicate s.cfg.eopIdle.toNat .tick) :=
  ⟨by decide, by decide, by decide, by decide,
    { State.reset with
      events := .cmd (encode (.t9Recv 1 (some 3))) ::
        ((frameChars ([0x03, 0x00, 0x0B] ++ be16 (chk16 [0x03, 0x00, 0x0B]))).map .rxChar ++
          List.replicate 20 .tick) },
    some 3, [0x03, 0x00, 0x0B], by decide, by decide, by decide, rfl, by decide, by decide, by decide,
    (fun _ h => by cases h; decide), rfl⟩

theorem test_witness_PacketEncodeLayout :
    State.reset.Idle ∧ (9 : Byte).toNat ≤ 9 ∧ (22 : Byte).toNat ∈ [2, 3, 4, 22] ∧ 9 < (10 : Byte).toNat ∧
      (0x15 : Byte).toNat ∉ [2, 3, 4, 22] := by decide

theorem test_witness_PacketResponseAndValue :
    State.reset.Idle ∧ ([0x03] : Bytes).length < 2 ∧ ([0x00] : Bytes) ≠ [] ∧ (0x7F : Byte).toNat < 128 ∧
      128 ≤ (0x80 : Byte).toNat ∧ ([0x00, 0x0B, 0x00] : Bytes).length ≠ 2 ∧ ([0x00] : Bytes).length ≠ 2 ∧
      ([0x00] : Bytes).length < 65536 := by decide

theorem test_witness_ExchangeSendsFirstAttempt :
    (∃ s : State, s.Idle ∧ s.rxq = [] ∧ (9 : Byte).toNat ≤ 9 ∧ s.cfg.transport = .ser9 ∧
      (22 : Byte).toNat ∈ [2, 3, 4, 22]) ∧
    (∃ s : State, s.Idle ∧ s.rxq = [] ∧ (9 : Byte).toNat ≤ 9 ∧ s.cfg.transport = .pjon ∧
      (2 : Byte).toNat ∈ [2, 3, 4, 22]) ∧
    (∃ s : State, s.Idle ∧ s.cfg.transport = .ser9 ∧ s.rxq = ([0x606, 0x000] : List (BitVec 11)).map .char) ∧
    (∃ s : State, s.Idle ∧ s.cfg.transport = .pjon ∧ s.rxq = ([0x95, 0xEA, 0x95] : Bytes).map .byte) :=
  ⟨⟨small .ser9, by decide⟩, ⟨small .pjon, by decide⟩,
    ⟨{ small .ser9 with rxq := [.char 0x606, .char 0x000] }, by decide⟩,
    ⟨{ small .pjon with rxq := [.byte 0x95, .byte 0xEA, .byte 0x95] }, by decide⟩⟩

theorem test_witness_ExchangeValidatesResponse :
    (collecting []).xchState = .awaitingResponse ∧ ([0x03] : Bytes).length < 2 ∧ ([0x00] : Bytes) ≠ [] ∧
      128 ≤ (0x80 : Byte).toNat ∧ (0x7F : Byte).toNat < 128 ∧ (collecting []).xchOp = .query ∧
      ({ collecting [] with xchOp := .send } : State).xchOp = .send ∧
      ({ collecting [] with xchOp := .control } : State).xchOp = .control ∧ ([0x00, 0x0B] : Bytes).length = 2 ∧
      ([0x00] : Bytes).length ≠ 2 := by decide

/-- A fatal error, a retryable one with no retry left, and one with a retry left, on both transports. -/
theorem test_witness_ExchangeRetryDecision :
    (collecting []).xchState = .awaitingResponse ∧ ErrKind.frameTooShort.retryable = false ∧
      (∃ s : State, s.xchState = .awaitingResponse ∧ s.cfg.retryPacket ≤ s.xchRetries) ∧
      (∃ s : State, s.xchState = .awaitingResponse ∧ s.cfg.transport = .ser9 ∧ s.xchRetries < s.cfg.retryPacket ∧
        s.rxq = []) ∧
      (∃ s : State, s.xchState = .awaitingResponse ∧ s.cfg.transport = .pjon ∧ s.xchRetries < s.cfg.retryPacket ∧
        s.rxq = []) ∧
      (∃ s : State, s.xchState = .awaitingResponse ∧ s.cfg.transport = .ser9 ∧ s.xchRetries < s.cfg.retryPacket ∧
        s.rxq = ([0x606] : List (BitVec 11)).map .char) ∧
      (∃ s : State, s.xchState = .awaitingResponse ∧ s.cfg.transport = .pjon ∧ s.xchRetries < s.cfg.retryPacket ∧
        s.rxq = ([0x95, 0xEA] : Bytes).map .byte) :=
  ⟨by decide, by decide, ⟨{ collecting [] with xchRetries := 1 }, by decide⟩, ⟨collecting [], by decide⟩,
    ⟨{ small .pjon with xchState := .awaitingResponse }, by decide⟩,
    ⟨{ collecting [] with rxq := [.char 0x606] }, by decide⟩,
    ⟨{ small .pjon with xchState := .awaitingResponse, rxq := [.byte 0x95, .byte 0xEA] }, by decide⟩⟩

theorem test_witness_SilentLineExhaustsRetries : ∃ (s : State) (op : XchOp) (e : Option (BitVec 16)) (n : Nat),
    s.Idle ∧ s.ConfigLoaded ∧ s.rxq = [] ∧ (9 : Byte).toNat ≤ 9 ∧ (22 : Byte).toNat ∈ [2, 3, 4, 22] ∧
      e ≠ some 0xFFFF ∧ n = (s.cfg.retryPacket.toNat + 1) * s.cfg.rxTimeout.toNat ∧ 0 < n ∧
      s.events = .cmd (encode (exchangeCommand op 9 22 0xFFFF 0 e)) :: List.replicate n .tick :=
  ⟨{ small .pjon with events := .cmd (encode (.xchQuery 9 0xFFFF 0)) :: List.replicate 4 .tick }, .query, none, 4,
    by decide, by decide, rfl, by decide, by decide, by decide, rfl, by decide, rfl⟩

/-- The hypotheses of an exchange whose attempts fail as `fails` says, with what the line does after them. -/
theorem exchange_witness (tr : Transport) (op : XchOp) (fails : List (List Event × (ErrKind × BitVec 16)))
    (tail : List Event) : ∃ s : State, s = { small tr with
        events := .cmd (encode (exchangeCommand op 9 22 0x0002 0 none)) :: ((fails.map Prod.fst).flatten ++ tail) } ∧
      s.Idle ∧ s.ConfigLoaded ∧ s.rxq = [] ∧ (9 : Byte).toNat ≤ 9 ∧ (22 : Byte).toNat ∈ [2, 3, 4, 22] ∧
      (none : Option (BitVec 16)) ≠ some 0xFFFF :=
  ⟨_, rfl, ⟨.inl rfl, rfl, rfl⟩, (by cases tr <;> decide : (small tr).ConfigLoaded), rfl, by decide, by decide,
    by decide⟩

/-- A failed attempt of each kind on the lines of `small`: silence, a damaged 9-bit frame, and on the PJON line a frame
with a wrong CRC, one for another device and a malformed one; recovery on the last attempt allowed, and exhaustion. -/
theorem test_witness_ExchangeRecoversAfterSilence :
    FailedAttempt (small .ser9).cfg 255 none (List.replicate 2 .tick) (.noResponse, 0) ∧
    FailedAttempt (small .ser9).cfg 255 (some 2)
      ((frameChars ([0x03, 0x00, 0x0F] ++ [0x00, 0x0E])).map .rxChar ++ List.replicate 1 .tick)
      (.checksumMismatch, 0x0012) ∧
    FailedAttempt (small .pjon).cfg 255 none
      ((sfspWrap [0x01, 0x02, 0x09, 0xF0, 0x0A, 0x03, 0x00, 0x0B, 0xF2]).map .rxByte) (.payloadCrcMismatch, 0xF1) ∧
    FailedAttempt (small .pjon).cfg 255 none
      ((sfspWrap [0x07, 0x02, 0x09, 0x56, 0x0A, 0x03, 0x00, 0x0B, 0xF1]).map .rxByte) (.noResponse, 0) ∧
    FailedAttempt (small .pjon).cfg 255 none ((0x95 :: (escape [0x01] ++ [0xBB, 0xEA])).map .rxByte)
      (.malformedFrame, 1) ∧
    (small .ser9).cfg.retryPacket.toNat = 1 ∧ (0x7F : Byte).toNat < 128 ∧ ([0x00, 0x0B] : Bytes) ≠ [] ∧
    ([0x00, 0x0B] : Bytes).length + 3 ≤ (small .ser9).params.maxbuf ∧
    (∀ v, exchangeExpected .query none = some v → ([0x00, 0x0B] : Bytes).length ≤ v.toNat) ∧
    (List.replicate 245 (0 : Byte)).length ≤ 245 :=
  ⟨.silence, .damaged [0x03, 0x00, 0x0F] 0x00 0x0E rfl (by decide) (by decide) (fun _ h => by cases h; decide)
      (by decide),
    .badFrame _ _ _ rfl (by decide) (by decide +kernel) rfl,
    .otherDevice _ 0x07 rfl (by decide) (by decide +kernel),
    .malformed [0x01] rfl (by decide), rfl, by decide, by decide, by decide, (fun _ h => by cases h; decide),
    by simp only [List.length_replicate]; decide⟩

/-- Buses that meet each clause: an MX at port 0, a hub with nothing behind it, an empty bus, the wanted device at the
last port behind silence, and a failure. -/
theorem test_witness_EnumerateGatesOnHub :
    (∃ (bus : Byte → QueryOutcome) (v : BitVec 16), bus 0 = .value v ∧ deviceCodes.typeOf (lo8 v) ≠ .hub) ∧
    (∃ (bus : Byte → QueryOutcome) (v : BitVec 16), bus 0 = .value v ∧ deviceCodes.typeOf (lo8 v) = .hub ∧
      ∀ (q : Port) (k : ErrKind), bus (portByte q) = .failed k → k = .noResponse) ∧
    (∃ bus : Byte → QueryOutcome, bus 0 = .failed .noResponse ∧ ∀ r : Port, bus (portByte r) = .failed .noResponse) ∧
    (∃ (bus : Byte → QueryOutcome) (v : BitVec 16), bus (portByte 9) = .value v ∧
      deviceCodes.typeOf (lo8 v) = .mx ∧ ∀ r : Port, r < 9 → bus (portByte r) = .failed .noResponse) ∧
    (∃ bus : Byte → QueryOutcome, ErrKind.remoteError ≠ .noResponse ∧
      bus (startFind .mx).port = .failed .remoteError) := by
  refine ⟨⟨fun _ => .value 0x4203, 0x4203, rfl, by decide⟩,
    ⟨fun q => if q = 0 then .value 0x0001 else .failed .noResponse, 0x0001, rfl, by decide, ?_⟩,
    ⟨fun _ => .failed .noResponse, rfl, fun _ => rfl⟩,
    ⟨fun q => if q = 9 then .value 0x0003 else .failed .noResponse, 0x0003, rfl, by decide, by decide⟩,
    ⟨fun _ => .failed .remoteError, by decide, rfl⟩⟩
  intro q k h
  by_cases h0 : portByte q = 0
  · have h' := (if_pos h0).symm.trans h
    cases h'
  · have h' := (if_neg h0).symm.trans h
    cases h'
    rfl

/-- Program P7 with small timeouts: an MX answers the query of port 0, and the enumeration ends after one query. -/
theorem test_host_enumerate : (match runHost deviceCodes 7
      { block := { small .ser9 with events := ([0x606, 0x400, 0x406, 0x400, 0x40C].map .rxChar ++ [.tick]) }
        task := .issue startEnumerate } with
    | .next h => some (h.task, h.block.xchAttempts, h.block.rsp)
    | .fault _ => none
    | .refused _ => none) =
    some (.ended (.topology (emptyTopology.set 0 (some { deviceType := .mx, port := 0, revision := none }))), 1,
      [[0x00, 0x00, 0x00, 0x01, 0x00, 0x02, 0x00, 0x03]]) := by decide +kernel

/-- The hypotheses of each clause: a query that is answered, a silent line, a response, ports on both sides of 9, and a
busy block. -/
theorem test_witness_DiscoveryDrivesBlock :
    (∃ (h : HostSystem) (d : Discovery) (s b : State) (r : Bytes),
      h.task = .issue d ∧ (∀ ev ∈ h.block.events, ev.isCommand = false) ∧
      s = { h.block with events := .cmd (scanCommand d.port) :: h.block.events } ∧
      (∀ k, k ≤ 0 → ∃ w : State, runSteps k s = .next w ∧ w.rsp = s.rsp) ∧
      runSteps (0 + 1) s = .next b ∧ b.rsp = s.rsp ++ [r]) ∧
    ErrKind.noResponse ≠ .none ∧
    (∃ (s : State) (n : Nat), s.Idle ∧ s.ConfigLoaded ∧ s.rxq = [] ∧
      n = (s.cfg.retryPacket.toNat + 1) * s.cfg.rxTimeout.toNat ∧ s.events = List.replicate n .tick) ∧
    (∃ (s : State) (n : Nat), s.Idle ∧ s.ConfigLoaded ∧ s.rxq = [] ∧
      n = (s.cfg.retryPacket.toNat + 1) * s.cfg.rxTimeout.toNat ∧ s.events = List.replicate (10 * n) .tick) ∧
    (∀ tr : Transport, ∃ s : State, s.cfg.transport = tr ∧ s.Idle ∧ s.ConfigLoaded ∧ s.rxq = [] ∧ (0x03 : Byte).toNat < 128 ∧
      s.events = responseEvents s.cfg 0x0A [0x03, 0x42, 0x03] ∧ deviceCodes.typeOf 0x03 ≠ .hub) ∧
    deviceCodes.typeOf 0x01 = .hub ∧ 9 < (10 : Byte).toNat ∧ (9 : Byte).toNat ≤ 9 ∧ ¬ busyXch.Idle :=
  ⟨⟨{ block := State.reset, task := .issue (startScan 10) }, _, _, _, _, rfl, by decide, rfl,
      (fun k hk => by cases Nat.le_zero.1 hk; exact ⟨_, rfl, rfl⟩), rfl, rfl⟩,
    by decide,
    ⟨{ small .ser9 with events := List.replicate 4 .tick }, 4, by decide, by decide, rfl, rfl, rfl⟩,
    ⟨{ small .pjon with events := List.replicate 40 .tick }, 4, by decide, by decide, rfl, rfl, rfl⟩,
    (fun tr => ⟨{ small tr with events := responseEvents (small tr).cfg 0x0A [0x03, 0x42, 0x03] }, rfl,
      by cases tr <;> decide, by cases tr <;> decide, rfl, by decide, rfl, by decide⟩),
    by decide, by decide, by decide, by decide⟩

end Sys2Proof.Tests.Slice0
end

/-! The refusal of a reserved `OPSEL` (spec/30_encoding.md R106). -/

namespace Sys2Proof.Machine

/-- The rows of R105: the `OPSEL` values that R106 does not reserve. -/
def assignedOpsels : List Nat :=
  [0x00, 0x10, 0x11, 0x12, 0x13, 0x20, 0x21, 0x22, 0x23, 0x30, 0x31, 0x32, 0x33, 0x40, 0x41, 0x42, 0x43,
    0x50, 0x51, 0x52, 0x53, 0x60, 0x61, 0x62, 0x63, 0x70, 0x71, 0x72, 0x73, 0x80, 0x81, 0x82, 0x90, 0x91, 0x92]

/-- The operation-select map leaves out exactly the reserved values. -/
theorem opRow_eq_none_iff (op : Byte) : opRow op = none ↔ op.toNat ∉ assignedOpsels := by
  unfold opRow assignedOpsels
  split
  case h_36 => simp_all
  all_goals next hrow => simp [hrow]

/-- The decoder looks at the operands of an assigned `OPSEL` only. -/
theorem decode_of_opRow_none {op : Byte} (h : opRow op = none) (operands : Bytes) :
    decode (op :: operands) = .error (.reservedOpsel op) := by
  simp only [decode, h]

/-- A command that does not decode is taken from the pending events and refused by its decoding error. -/
theorem step_cmd_error {s : State} {bytes : Bytes} {rest : List Event} {e : DecodeError}
    (hev : s.events = .cmd bytes :: rest) (hdec : decode bytes = .error e) :
    step s = .next (refuseCommand e { s with events := rest }) := by
  rw [step_event hev]
  simp only [runEvent, runCommand, hdec]

@[simp] theorem refuseCommand_reservedOpsel (op : Byte) (s : State) :
    refuseCommand (.reservedOpsel op) s = s.refuse .illegalOp (op.zeroExtend 16) := rfl

/-- Pending events are no part of what makes a block idle. -/
@[simp] theorem State.idle_withEvents (s : State) (es : List Event) :
    ({ s with events := es } : State).Idle ↔ s.Idle :=
  State.idle_congr rfl rfl rfl

/-- Settles O5: the command decodes to `reservedOpsel`, and its refusal is that of an idle or of a busy block. -/
theorem reservedOpselRefused : Obligations.ReservedOpselRefused := by
  intro s op operands rest hreserved hev
  have hdec : decode (op :: operands) = .error (.reservedOpsel op) :=
    decode_of_opRow_none ((opRow_eq_none_iff op).2 hreserved) operands
  have hstep : step s = .next (({ s with events := rest } : State).refuse .illegalOp (op.zeroExtend 16)) := by
    rw [step_cmd_error hev hdec, refuseCommand_reservedOpsel]
  constructor
  · intro hidle
    rw [hstep, State.refuse_of_idle ((State.idle_withEvents s rest).2 hidle)]
  · intro hbusy
    rw [hstep, State.refuse_of_busy (mt (State.idle_withEvents s rest).1 hbusy)]
    rfl

end Sys2Proof.Machine

/-! Operand strings of format S (spec/30_encoding.md R104). -/

namespace Sys2Proof.Machine

theorem u16be_toNat (hi lo : Byte) : (u16be hi lo).toNat = hi.toNat * 256 + lo.toNat := by
  have hlo : lo.toNat < 2 ^ 8 := lo.isLt
  rw [u16be, BitVec.toNat_append, ← Nat.shiftLeft_add_eq_or_of_lt hlo, Nat.shiftLeft_eq]

@[simp] theorem u16be_hi8_lo8 (v : BitVec 16) : u16be (hi8 v) (lo8 v) = v := by
  apply BitVec.eq_of_toNat_eq
  simp only [u16be_toNat, hi8, lo8, BitVec.extractLsb'_toNat, Nat.shiftRight_eq_div_pow]
  omega

/-- A string whose length fits the two length bytes is read back. -/
theorem parseString_be16_length {d : Bytes} (h : d.length < 65536) :
    parseString (be16 (BitVec.ofNat 16 d.length) ++ d) = some d := by
  have hlen : (BitVec.ofNat 16 d.length).toNat = d.length := by
    rw [BitVec.toNat_ofNat]; exact Nat.mod_eq_of_lt h
  simp [parseString, be16, hlen]

/-- The command of a row in format S decodes to its operation. -/
theorem decode_fmtS {op : Byte} {mk : Bytes → Instr} (hrow : opRow op = some (.fmtS mk)) {d : Bytes}
    (h : d.length < 65536) : decode (op :: be16 (BitVec.ofNat 16 d.length) ++ d) = .ok (mk d) := by
  simp only [decode, List.cons_append, hrow, OpRow.parse, parseString_be16_length h, Option.map_some]

end Sys2Proof.Machine

/-! The 16-bit additive check (spec/40_chk16.md R131 to R140). -/

namespace Sys2Proof.Machine

/-! The check is the byte sum modulo 65535 (R131). -/

@[simp] theorem byteSum_nil : byteSum [] = 0 := rfl

theorem byteSum_concat (d : Bytes) (b : Byte) : byteSum (d ++ [b]) = byteSum d + b.toNat := by
  simp [byteSum]

/-- The induction appends one byte at a time, as the engine does; `upd` applies because the check of what came before is
in range. -/
theorem chk16_toNat (d : Bytes) : (chk16 d).toNat = byteSum d % 65535 := by
  induction d using List.reverseRecOn with
  | nil => rfl
  | append_singleton d b ih =>
    rw [chk16_concat, chk16Upd_toNat (chk16_le d), ih, byteSum_concat, Nat.mod_add_mod]

theorem chk16_eq_ofNat_byteSum (d : Bytes) : chk16 d = BitVec.ofNat 16 (byteSum d % 65535) := by
  rw [← chk16_toNat, BitVec.ofNat_toNat, BitVec.setWidth_eq]

theorem chk16_eq_u16be_iff (d : Bytes) (hi lo : Byte) :
    chk16 d = u16be hi lo ↔ byteSum d % 65535 = hi.toNat * 256 + lo.toNat := by
  rw [← BitVec.toNat_inj, chk16_toNat, u16be_toNat]

theorem chk16Upd_eq_ofNat {acc : BitVec 16} (h : acc.toNat ≤ 65534) (b : Byte) :
    chk16Upd acc b = BitVec.ofNat 16 ((acc.toNat + b.toNat) % 65535) := by
  rw [← chk16Upd_toNat h, BitVec.ofNat_toNat, BitVec.setWidth_eq]

/-! What the four operations do on an idle block (R137 to R140). -/

theorem exec_chk16Clr (s : State) : exec .chk16Clr s = execChk16Clr s := rfl
theorem exec_chk16Upd (b : Byte) (s : State) : exec (.chk16Upd b) s = execChk16Upd b s := rfl
theorem exec_chk16Gen (d : Bytes) (s : State) : exec (.chk16Gen d) s = execChk16Gen d s := rfl
theorem exec_chk16Val (f : Bytes) (s : State) : exec (.chk16Val f) s = execChk16Val f s := rfl

section
variable {s : State}

theorem exec_chk16Clr_of_idle (h : s.Idle) :
    exec .chk16Clr s = .next (({ s with chk16Acc := 0 } : State).answered voidRsp) := by
  rw [exec_chk16Clr, execChk16Clr, State.whenIdle_of_idle h, State.answer_void]

theorem exec_chk16Upd_of_idle (h : s.Idle) (b : Byte) :
    exec (.chk16Upd b) s = .next (({ s with chk16Acc := chk16Upd s.chk16Acc b } : State).answered
      (valueRsp (be16 (chk16Upd s.chk16Acc b)))) := by
  rw [exec_chk16Upd, execChk16Upd, State.whenIdle_of_idle h, State.answer_value]

theorem exec_chk16Gen_of_le (h : s.Idle) {d : Bytes} (hd : d.length ≤ s.params.maxbuf) :
    exec (.chk16Gen d) s =
      .next (({ s with chk16Acc := chk16 d } : State).answered (valueRsp (be16 (chk16 d)))) := by
  rw [exec_chk16Gen, execChk16Gen, State.whenIdle_of_idle h, (State.stringLegal_iff d s).2 hd,
    State.whenLegal_true, State.answer_value]

theorem exec_chk16Gen_of_lt (h : s.Idle) {d : Bytes} (hd : s.params.maxbuf < d.length) :
    exec (.chk16Gen d) s = .next (s.ended .illegalOperand 0) := by
  have hlegal : s.stringLegal d = false := by
    rw [← Bool.not_eq_true, State.stringLegal_iff]; omega
  rw [exec_chk16Gen, execChk16Gen, State.whenIdle_of_idle h, hlegal, State.whenLegal_false,
    State.refuse_of_idle h]

/-- Validation runs on the operand and its outcome is answered. -/
theorem exec_chk16Val_of_idle (h : s.Idle) (f : Bytes) :
    exec (.chk16Val f) s = .next ((chk16Validate f s).1.answer (chk16Validate f s).2) := by
  rw [exec_chk16Val, execChk16Val, State.whenIdle_of_idle h]

theorem exec_chk16Val_of_short (h : s.Idle) {f : Bytes} (hf : f.length < 3) :
    exec (.chk16Val f) s = .next (s.ended .frameTooShort (info16 f.length)) := by
  have hval : chk16Validate f s = (s, .err .frameTooShort (info16 f.length)) := if_pos hf
  rw [exec_chk16Val_of_idle h, hval, State.answer_err (State.inExchange_of_idle h)]

theorem exec_chk16Val_of_match (h : s.Idle) {d : Bytes} (hd : d ≠ []) {hi lo : Byte}
    (htrailer : chk16 d = u16be hi lo) :
    exec (.chk16Val (d ++ [hi, lo])) s =
      .next (({ s with chk16Acc := chk16 d } : State).answered (valueRsp d)) := by
  rw [exec_chk16Val_of_idle h, chk16Validate_trailer hd, if_pos htrailer, State.answer_value]

theorem exec_chk16Val_of_mismatch (h : s.Idle) {d : Bytes} (hd : d ≠ []) {hi lo : Byte}
    (htrailer : chk16 d ≠ u16be hi lo) :
    exec (.chk16Val (d ++ [hi, lo])) s =
      .next (({ s with chk16Acc := chk16 d } : State).ended .checksumMismatch (chk16 d)) := by
  have hidle : ({ s with chk16Acc := chk16 d } : State).Idle := (State.idle_congr rfl rfl rfl).2 h
  rw [exec_chk16Val_of_idle h, chk16Validate_trailer hd, if_neg htrailer,
    State.answer_err (State.inExchange_of_idle hidle)]

end

/-- Settles O18: by `chk16_toNat`, an induction on the byte sequence from its end. -/
theorem chk16IsSumModulo : Obligations.Chk16IsSumModulo :=
  ⟨chk16_toNat, chk16_nil⟩

/-- Settles O20: a string within `MAXBUF` is generated, a longer one refused. -/
theorem chk16GenReturnsSum : Obligations.Chk16GenReturnsSum := by
  refine ⟨fun d => decode_fmtS rfl, fun s d hidle => ⟨fun hlegal => ?_, exec_chk16Gen_of_lt hidle⟩⟩
  rw [← chk16_eq_ofNat_byteSum]
  exact exec_chk16Gen_of_le hidle hlegal

/-- Settles O21: the length test, then the trailer compared as a number with the byte sum. -/
theorem chk16ValChecksFrame : Obligations.Chk16ValChecksFrame := by
  refine ⟨fun f => decode_fmtS rfl, fun s hidle => ⟨fun f => exec_chk16Val_of_short hidle, fun d hi lo hd => ?_⟩⟩
  have htrailer := chk16_eq_u16be_iff d hi lo
  rw [← chk16_eq_ofNat_byteSum]
  exact ⟨fun hsum => exec_chk16Val_of_match hidle hd (htrailer.2 hsum),
    fun hsum => exec_chk16Val_of_mismatch hidle hd (mt htrailer.1 hsum)⟩

/-- Settles O19: an accumulator in range makes the update the sum modulo 65535 (R132). -/
theorem chk16ClearAndUpdate : Obligations.Chk16ClearAndUpdate := by
  refine ⟨rfl, fun b => rfl, fun s hidle => ⟨exec_chk16Clr_of_idle hidle, fun b hrange => ?_⟩⟩
  rw [← chk16Upd_eq_ofNat hrange]
  exact exec_chk16Upd_of_idle hidle b

end Sys2Proof.Machine

/-! The cyclic redundancy engines (spec/41_crc8_crc32.md R151 to R166). -/

namespace Sys2Proof.Machine

/-! One bit step of CRC8 on register and input together (R151): only their XOR decides what is shifted out. -/

/-- The bit step of `roll8` as a function of the XOR of the register and the input that is still to come. -/
def crc8BitStep (x : Byte) : Byte := if x.getLsbD 0 then (x >>> 1) ^^^ Config.crc8Poly else x >>> 1

theorem crc8BitStep_of_lsb {x : Byte} (h : x.getLsbD 0 = true) : crc8BitStep x = (x >>> 1) ^^^ Config.crc8Poly :=
  if_pos h

theorem crc8BitStep_of_not_lsb {x : Byte} (h : ¬ x.getLsbD 0 = true) : crc8BitStep x = x >>> 1 := if_neg h

/-- The polynomial sets bit 7, which the shift clears; without it the bit that the shift loses is 0. -/
theorem crc8BitStep_eq_zero_iff (x : Byte) : crc8BitStep x = 0 ↔ x = 0 := by
  refine ⟨fun h => ?_, by rintro rfl; rfl⟩
  by_cases hlsb : x.getLsbD 0 = true
  · rw [crc8BitStep_of_lsb hlsb] at h
    have hmsb : ((x >>> 1) ^^^ Config.crc8Poly).getLsbD 7 = true := by
      rw [BitVec.getLsbD_xor, BitVec.getLsbD_ushiftRight, BitVec.getLsbD_of_ge x (1 + 7) (by decide)]
      rfl
    rw [h] at hmsb
    exact absurd hmsb (by decide)
  · rw [crc8BitStep_of_not_lsb hlsb] at h
    rw [BitVec.getLsbD, Nat.testBit_zero, decide_eq_true_iff] at hlsb
    bv_omega

theorem iterate_crc8BitStep_eq_zero_iff (n : Nat) (x : Byte) : crc8BitStep^[n] x = 0 ↔ x = 0 := by
  induction n with
  | zero => rfl
  | succ n ih => rw [Function.iterate_succ_apply', crc8BitStep_eq_zero_iff, ih]

/-- One bit step of `roll8` brings the XOR of register and input one `crc8BitStep` further. -/
theorem crc8BitStep_xor (crc b : Byte) :
    crc8BitStep (crc ^^^ b) =
      (if (crc ^^^ b).getLsbD 0 then (crc >>> 1) ^^^ Config.crc8Poly else crc >>> 1) ^^^ (b >>> 1) := by
  unfold crc8BitStep
  rw [BitVec.ushiftRight_xor_distrib]
  split
  · rw [BitVec.xor_assoc, BitVec.xor_comm (b >>> 1), ← BitVec.xor_assoc]
  · rfl

/-- After `n` bit steps the register is the stepped XOR with the input that is still to come taken off again. -/
theorem roll8Steps_eq (n : Nat) (crc b : Byte) :
    roll8Steps n crc b = crc8BitStep^[n] (crc ^^^ b) ^^^ (b >>> n) := by
  induction n generalizing crc b with
  | zero => simp [roll8Steps]
  | succ n ih =>
    rw [roll8Steps, ih, Function.iterate_succ_apply, crc8BitStep_xor, ← BitVec.shiftRight_add, Nat.add_comm 1 n]

/-- The byte step depends on the XOR of register and byte alone. -/
theorem roll8_eq_iterate (crc b : Byte) : roll8 crc b = crc8BitStep^[8] (crc ^^^ b) := by
  rw [roll8, roll8Steps_eq, BitVec.ushiftRight_eq_zero (Nat.le_refl 8), BitVec.xor_zero]

/-- Only the register's own value clears it (R153 b). -/
theorem roll8_eq_zero_iff (crc b : Byte) : roll8 crc b = 0 ↔ crc = b := by
  rw [roll8_eq_iterate, iterate_crc8BitStep_eq_zero_iff]
  exact BitVec.xor_eq_zero_iff

/-- The CRC over a message and one more byte is 0 exactly when that byte is the CRC of the message. -/
theorem crc8_concat_eq_zero_iff (m : Bytes) (c : Byte) : crc8 (m ++ [c]) = 0 ↔ crc8 m = c := by
  rw [crc8_concat, roll8_eq_zero_iff]

/-! The trailer of a CRC32 frame (R101). -/

@[simp] theorem u32be_extract (v : BitVec 32) :
    u32be (v.extractLsb' 24 8) (v.extractLsb' 16 8) (v.extractLsb' 8 8) (v.extractLsb' 0 8) = v := by
  unfold u32be
  rw [BitVec.extractLsb'_append_extractLsb'_eq_extractLsb' (by rfl),
    BitVec.extractLsb'_append_extractLsb'_eq_extractLsb' (by rfl),
    BitVec.extractLsb'_append_extractLsb'_eq_extractLsb' (by rfl)]
  exact BitVec.extractLsb'_eq_self

@[simp] theorem be32_length (v : BitVec 32) : (be32 v).length = 4 := rfl

/-- The last four bytes are read back as the value they were written from. -/
@[simp] theorem trailer32_append_be32 (m : Bytes) (v : BitVec 32) : trailer32 (m ++ be32 v) = v := by
  simp [trailer32, be32]

/-! The limit on an operand string, and verdicts. -/

theorem State.whenLegal_string_of_le {s : State} {bs : Bytes} (h : bs.length ≤ s.params.maxbuf)
    (run : State → State) : s.whenLegal (s.stringLegal bs) run = run s := by
  rw [(State.stringLegal_iff bs s).2 h, State.whenLegal_true]

theorem State.whenLegal_string_of_lt {s : State} (hidle : s.Idle) {bs : Bytes} (h : s.params.maxbuf < bs.length)
    (run : State → State) : s.whenLegal (s.stringLegal bs) run = s.ended .illegalOperand 0 := by
  have hillegal : s.stringLegal bs = false := by
    rw [← Bool.not_eq_true, State.stringLegal_iff]
    omega
  rw [hillegal, State.whenLegal_false, State.refuse_of_idle hidle]

@[simp] theorem State.answer_verdict (ok : Bool) (s : State) :
    s.answer (verdict ok) = s.answered (valueRsp [if ok then 1 else 0]) := rfl

/-! What the four operations of CRC8 do on an idle block (R154 to R157). -/

theorem exec_crc8Clr (s : State) : exec .crc8Clr s = execCrc8Clr s := rfl
theorem exec_crc8Upd (b : Byte) (s : State) : exec (.crc8Upd b) s = execCrc8Upd b s := rfl
theorem exec_crc8Gen (m : Bytes) (s : State) : exec (.crc8Gen m) s = execCrc8Gen m s := rfl
theorem exec_crc8Val (f : Bytes) (s : State) : exec (.crc8Val f) s = execCrc8Val f s := rfl

section
variable {s : State}

theorem exec_crc8Clr_of_idle (h : s.Idle) :
    exec .crc8Clr s = .next (({ s with crc8Reg := 0 } : State).answered voidRsp) := by
  rw [exec_crc8Clr, execCrc8Clr, State.whenIdle_of_idle h, State.answer_void, Config.crc8Init]

theorem exec_crc8Upd_of_idle (h : s.Idle) (b : Byte) :
    exec (.crc8Upd b) s =
      .next (({ s with crc8Reg := roll8 s.crc8Reg b } : State).answered (valueRsp [roll8 s.crc8Reg b])) := by
  rw [exec_crc8Upd, execCrc8Upd, State.whenIdle_of_idle h, State.answer_value]

theorem exec_crc8Gen_of_le (h : s.Idle) {m : Bytes} (hm : m.length ≤ s.params.maxbuf) :
    exec (.crc8Gen m) s = .next (({ s with crc8Reg := crc8 m } : State).answered (valueRsp [crc8 m])) := by
  rw [exec_crc8Gen, execCrc8Gen, State.whenIdle_of_idle h, State.whenLegal_string_of_le hm, State.answer_value]

theorem exec_crc8Gen_of_lt (h : s.Idle) {m : Bytes} (hm : s.params.maxbuf < m.length) :
    exec (.crc8Gen m) s = .next (s.ended .illegalOperand 0) := by
  rw [exec_crc8Gen, execCrc8Gen, State.whenIdle_of_idle h, State.whenLegal_string_of_lt h hm]

theorem exec_crc8Val_nil (h : s.Idle) : exec (.crc8Val []) s = .next (s.ended .frameTooShort 0) := by
  rw [exec_crc8Val, execCrc8Val, State.whenIdle_of_idle h]
  exact congrArg Host.Outcome.next (State.answer_err (State.inExchange_of_idle h) .frameTooShort 0)

/-- On a message and one byte the verdict compares the byte with the CRC of the message. -/
theorem exec_crc8Val_concat (h : s.Idle) (m : Bytes) (c : Byte) :
    exec (.crc8Val (m ++ [c])) s = .next (({ s with crc8Reg := crc8 m } : State).answered
      (valueRsp [if crc8 m = c then 1 else 0])) := by
  have hlen : ¬ (m ++ [c]).length < 1 := by simp
  have htake : (m ++ [c]).take ((m ++ [c]).length - 1) = m := by simp
  have hlast : (m ++ [c]).getD ((m ++ [c]).length - 1) 0 = c := by simp
  rw [exec_crc8Val, execCrc8Val, State.whenIdle_of_idle h]
  simp only [if_neg hlen, htake, hlast, State.answer_verdict, beq_iff_eq]

end

/-! What the four operations of CRC32 do on an idle block (R163 to R166). -/

theorem exec_crc32Clr (s : State) : exec .crc32Clr s = execCrc32Clr s := rfl
theorem exec_crc32Upd (b : Byte) (s : State) : exec (.crc32Upd b) s = execCrc32Upd b s := rfl
theorem exec_crc32Gen (m : Bytes) (s : State) : exec (.crc32Gen m) s = execCrc32Gen m s := rfl
theorem exec_crc32Val (f : Bytes) (s : State) : exec (.crc32Val f) s = execCrc32Val f s := rfl

section
variable {s : State}

theorem exec_crc32Clr_of_idle (h : s.Idle) :
    exec .crc32Clr s = .next (({ s with crc32Reg := 0xFFFFFFFF } : State).answered voidRsp) := by
  rw [exec_crc32Clr, execCrc32Clr, State.whenIdle_of_idle h, State.answer_void, Config.crc32Init]

theorem exec_crc32Upd_of_idle (h : s.Idle) (b : Byte) :
    exec (.crc32Upd b) s = .next (({ s with crc32Reg := upd32 s.crc32Reg b } : State).answered
      (valueRsp (be32 (upd32 s.crc32Reg b ^^^ 0xFFFFFFFF)))) := by
  rw [exec_crc32Upd, execCrc32Upd, State.whenIdle_of_idle h, State.answer_value, crc32Result, Config.crc32Xorout]

theorem exec_crc32Gen_of_le (h : s.Idle) {m : Bytes} (hm : m.length ≤ s.params.maxbuf) :
    exec (.crc32Gen m) s = .next (({ s with crc32Reg := crc32 m ^^^ 0xFFFFFFFF } : State).answered
      (valueRsp (be32 (crc32 m)))) := by
  rw [exec_crc32Gen, execCrc32Gen, State.whenIdle_of_idle h, State.whenLegal_string_of_le hm, State.answer_value,
    crc32Result_crc32Raw, crc32Raw_eq]

theorem exec_crc32Gen_of_lt (h : s.Idle) {m : Bytes} (hm : s.params.maxbuf < m.length) :
    exec (.crc32Gen m) s = .next (s.ended .illegalOperand 0) := by
  rw [exec_crc32Gen, execCrc32Gen, State.whenIdle_of_idle h, State.whenLegal_string_of_lt h hm]

theorem exec_crc32Val_of_short (h : s.Idle) {f : Bytes} (hf : f.length < 4) :
    exec (.crc32Val f) s = .next (s.ended .frameTooShort (info16 f.length)) := by
  rw [exec_crc32Val, execCrc32Val, State.whenIdle_of_idle h]
  simp only [if_pos hf, State.answer_err (State.inExchange_of_idle h)]

/-- On a message and a trailer the verdict compares the trailer with the CRC32 of the message. -/
theorem exec_crc32Val_append_be32 (h : s.Idle) (m : Bytes) (c : BitVec 32) :
    exec (.crc32Val (m ++ be32 c)) s = .next (({ s with crc32Reg := crc32 m ^^^ 0xFFFFFFFF } : State).answered
      (valueRsp [if crc32 m = c then 1 else 0])) := by
  have hlen : ¬ (m ++ be32 c).length < 4 := by simp
  have htake : (m ++ be32 c).take ((m ++ be32 c).length - 4) = m := by simp
  rw [exec_crc32Val, execCrc32Val, State.whenIdle_of_idle h]
  simp only [if_neg hlen, htake, trailer32_append_be32, crc32Result_crc32Raw, State.answer_verdict, beq_iff_eq]
  rw [crc32Raw_eq]

end

/-- Settles O25: by `roll8_eq_zero_iff` the last byte step ends at 0 exactly when its byte is the register. -/
theorem crc8ValVerdict : Obligations.Crc8ValVerdict := by
  refine ⟨fun f => decode_fmtS rfl, fun s hidle => ⟨exec_crc8Val_nil hidle, fun m c => ?_⟩⟩
  refine ⟨crc8_concat_eq_zero_iff m c, ?_⟩
  simp only [crc8_concat_eq_zero_iff]
  exact exec_crc8Val_concat hidle m c

/-- Settles O23: the own-value law is the easy direction of `roll8_eq_zero_iff`. -/
theorem crc8ClearUpdateGenerate : Obligations.Crc8ClearUpdateGenerate :=
  ⟨rfl, fun _ => rfl, fun _ => decode_fmtS rfl, fun c => (roll8_eq_zero_iff c c).2 rfl, crc8_nil, fun _ hidle =>
    ⟨exec_crc8Clr_of_idle hidle, exec_crc8Upd_of_idle hidle, fun _ =>
      ⟨exec_crc8Gen_of_le hidle, exec_crc8Gen_of_lt hidle⟩⟩⟩

/-- Settles O26: the register before the final XOR is `crc32Raw_eq`. -/
theorem crc32ClearUpdateGenerate : Obligations.Crc32ClearUpdateGenerate :=
  ⟨rfl, fun _ => rfl, fun _ => decode_fmtS rfl, fun _ hidle =>
    ⟨exec_crc32Clr_of_idle hidle, exec_crc32Upd_of_idle hidle, fun _ =>
      ⟨exec_crc32Gen_of_le hidle, exec_crc32Gen_of_lt hidle⟩⟩⟩

/-- Settles O27: the length test, then the trailer read back by `trailer32_append_be32`. -/
theorem crc32ValVerdict : Obligations.Crc32ValVerdict :=
  ⟨fun _ => decode_fmtS rfl, fun _ hidle =>
    ⟨fun _ => exec_crc32Val_of_short hidle, exec_crc32Val_append_be32 hidle⟩⟩

end Sys2Proof.Machine

/-! The escape codec and the deframer (spec/42_pjon_escape.md R181 to R189). -/

namespace Sys2Proof.Machine

/-! The image of a byte (R181). -/

theorem isDelimiter_eq_false_iff (b : Byte) : isDelimiter b = false ↔ b ≠ 0x95 ∧ b ≠ 0xEA := by
  rw [← Bool.not_eq_true, isDelimiter_iff, not_or]

theorem isSpecial_eq_false_iff (b : Byte) : isSpecial b = false ↔ b ≠ 0x95 ∧ b ≠ 0xEA ∧ b ≠ 0xBB := by
  rw [← Bool.not_eq_true, isSpecial_iff, not_or, not_or]

/-- What both decoders rely on: a byte is copied, or becomes a pair whose second byte is no delimiter and XORs back. -/
theorem escapeByte_copy_or_pair (b : Byte) :
    (b ≠ 0x95 ∧ b ≠ 0xEA ∧ b ≠ 0xBB ∧ escapeByte b = [b]) ∨
      ∃ c : Byte, c ≠ 0x95 ∧ c ≠ 0xEA ∧ c ^^^ 0xBB = b ∧ escapeByte b = [0xBB, c] := by
  rcases escapeByte_cases b with hcopy | ⟨rfl, hpair⟩ | ⟨rfl, hpair⟩ | ⟨rfl, hpair⟩
  · exact .inl hcopy
  · exact .inr ⟨0x2E, by decide, by decide, by decide, hpair⟩
  · exact .inr ⟨0x51, by decide, by decide, by decide, hpair⟩
  · exact .inr ⟨0x00, by decide, by decide, by decide, hpair⟩

/-- The image of a byte is one of the blocks of R185. -/
theorem escapeByte_block (b : Byte) :
    (∃ c : Byte, escapeByte b = [c] ∧ c ≠ 0x95 ∧ c ≠ 0xEA ∧ c ≠ 0xBB) ∨
      escapeByte b = [0xBB, 0x2E] ∨ escapeByte b = [0xBB, 0x51] ∨ escapeByte b = [0xBB, 0x00] := by
  rcases escapeByte_cases b with ⟨hstart, hend, hesc, hcopy⟩ | ⟨-, hpair⟩ | ⟨-, hpair⟩ | ⟨-, hpair⟩
  · exact .inl ⟨b, hcopy, hstart, hend, hesc⟩
  · exact .inr (.inl hpair)
  · exact .inr (.inr (.inl hpair))
  · exact .inr (.inr (.inr hpair))

theorem escapeByte_length_bounds (b : Byte) : 1 ≤ (escapeByte b).length ∧ (escapeByte b).length ≤ 2 := by
  rcases escapeByte_copy_or_pair b with ⟨_, _, _, himage⟩ | ⟨c, _, _, _, himage⟩ <;> simp [himage]

theorem ne_delimiter_of_mem_escapeByte {b x : Byte} (h : x ∈ escapeByte b) : x ≠ 0x95 ∧ x ≠ 0xEA := by
  rcases escapeByte_copy_or_pair b with ⟨hstart, hend, -, hcopy⟩ | ⟨c, hstart, hend, -, hpair⟩
  · rw [hcopy, List.mem_singleton] at h
    exact h ▸ ⟨hstart, hend⟩
  · rw [hpair, List.mem_pair] at h
    rcases h with rfl | rfl
    · decide
    · exact ⟨hstart, hend⟩

/-! The image of a byte sequence (R181, R185). -/

theorem escape_eq_flatten (f : Bytes) : escape f = (f.map escapeByte).flatten := List.flatMap_def

theorem ne_delimiter_of_mem_escape {f : Bytes} {x : Byte} (h : x ∈ escape f) : x ≠ 0x95 ∧ x ≠ 0xEA := by
  obtain ⟨b, -, hb⟩ := List.mem_flatMap.1 h
  exact ne_delimiter_of_mem_escapeByte hb

theorem escape_length_bounds (f : Bytes) : f.length ≤ (escape f).length ∧ (escape f).length ≤ 2 * f.length := by
  induction f with
  | nil => simp
  | cons b f ih =>
    have hbyte := escapeByte_length_bounds b
    simp only [escape_cons, List.length_append, List.length_cons]
    omega

/-! Decoding, block by block (R183). -/

/-- A byte that is not special decodes to itself. -/
theorem unescapeFrom_copy {b : Byte} (hstart : b ≠ 0x95) (hend : b ≠ 0xEA) (hesc : b ≠ 0xBB) (i : Nat) (e : Bytes) :
    unescapeFrom i (b :: e) = (unescapeFrom (i + 1) e).map (b :: ·) := by
  have hspecial := (isSpecial_eq_false_iff b).2 ⟨hstart, hend, hesc⟩
  have hdelimiter := (isDelimiter_eq_false_iff b).2 ⟨hstart, hend⟩
  cases e with
  | nil => simp [unescapeFrom, hspecial, Except.map]
  | cons c e => simp only [unescapeFrom, hdelimiter, Config.escByte, hesc, Bool.false_eq_true, if_false]

/-- `ESC` and a byte that is no delimiter decode to that byte XOR `ESC`. -/
theorem unescapeFrom_pair {c : Byte} (hstart : c ≠ 0x95) (hend : c ≠ 0xEA) (i : Nat) (e : Bytes) :
    unescapeFrom i (0xBB :: c :: e) = (unescapeFrom (i + 2) e).map ((c ^^^ 0xBB) :: ·) := by
  have hesc : isDelimiter 0xBB = false := by decide
  have hdelimiter := (isDelimiter_eq_false_iff c).2 ⟨hstart, hend⟩
  simp only [unescapeFrom, hesc, hdelimiter, Config.escByte, Bool.false_eq_true, if_false, if_true]

theorem unescapeFrom_escapeByte_append (i : Nat) (b : Byte) (e : Bytes) :
    unescapeFrom i (escapeByte b ++ e) = (unescapeFrom (i + (escapeByte b).length) e).map (b :: ·) := by
  rcases escapeByte_copy_or_pair b with ⟨hstart, hend, hesc, hcopy⟩ | ⟨c, hstart, hend, hxor, hpair⟩
  · rw [hcopy]
    exact unescapeFrom_copy hstart hend hesc i e
  · rw [hpair, ← hxor]
    exact unescapeFrom_pair hstart hend i e

/-- Decoding runs through the escaped bytes in front and goes on behind them. -/
theorem unescapeFrom_escape_append (i : Nat) (f e : Bytes) :
    unescapeFrom i (escape f ++ e) = (unescapeFrom (i + (escape f).length) e).map (f ++ ·) := by
  induction f generalizing i with
  | nil => cases h : unescapeFrom i e <;> simp [h, Except.map]
  | cons b f ih =>
    rw [escape_cons, List.append_assoc, unescapeFrom_escapeByte_append, ih, List.length_append, Nat.add_assoc]
    cases unescapeFrom (i + ((escapeByte b).length + (escape f).length)) e <;> rfl

@[simp] theorem unescape_escape (f : Bytes) : unescape (escape f) = .ok f := by
  have h := unescapeFrom_escape_append 0 f []
  rw [List.append_nil] at h
  rw [unescape, h]
  simp [unescapeFrom, Except.map]

/-- Settles O30: decoding and the block structure follow the image of each byte, `escapeByte_copy_or_pair`. -/
theorem escapeRoundTrip : Obligations.EscapeRoundTrip := by
  refine ⟨unescape_escape, fun f => ⟨?start, ?finish, f.map escapeByte, escape_eq_flatten f, ?blocks⟩,
    escape_length_bounds, fun e => ⟨?image, ?preimage⟩, by decide, by decide⟩
  case start => exact fun h => (ne_delimiter_of_mem_escape h).1 rfl
  case finish => exact fun h => (ne_delimiter_of_mem_escape h).2 rfl
  case blocks =>
    intro blk hblk
    obtain ⟨b, -, rfl⟩ := List.mem_map.1 hblk
    exact escapeByte_block b
  case image =>
    rintro ⟨g, -, himage⟩
    exact ⟨g, himage.symm⟩
  case preimage =>
    rintro ⟨f, rfl⟩
    exact ⟨f, unescape_escape f, rfl⟩

/-! The rows of the deframer's table that a wrapped frame meets (R188). -/

theorem deframeByte_start (s : State) : deframeByte 0x95 s = ({ s.clearRx with escState := .body }, .nothing) := rfl

section
variable {s : State}

theorem deframeByte_body_end (h : s.escState = .body) :
    deframeByte 0xEA s = ({ s with escState := .hunt }, .frame s.rxbuf) := by
  simp [deframeByte, h, Config.startByte, Config.endByte]

theorem deframeByte_body_esc (h : s.escState = .body) :
    deframeByte 0xBB s = ({ s with escState := .escaped }, .nothing) := by
  simp [deframeByte, h, Config.startByte, Config.endByte, Config.escByte]

theorem deframeByte_body_copy (h : s.escState = .body) {b : Byte} (hstart : b ≠ 0x95) (hend : b ≠ 0xEA)
    (hesc : b ≠ 0xBB) : deframeByte b s = deframeStore b s := by
  simp only [deframeByte, h, Config.startByte, Config.endByte, Config.escByte, hstart, hend, hesc, if_false]

theorem deframeByte_escaped_pair (h : s.escState = .escaped) {c : Byte} (hstart : c ≠ 0x95) (hend : c ≠ 0xEA) :
    deframeByte c s = deframeStore (c ^^^ 0xBB) s := by
  simp only [deframeByte, h, Config.startByte, Config.endByte, Config.escByte, hstart, hend, if_false]

theorem deframeStore_of_lt (h : s.rxbuf.length < s.params.maxbuf) (d : Byte) :
    deframeStore d s = ({ s.appendRx false d with escState := .body }, .nothing) :=
  if_neg fun hfull => Nat.not_le_of_lt h ((State.rxFull_iff s).1 hfull)

/-! One byte as a command of its own. -/

theorem exec_sfspRxb (b : Byte) (s : State) : exec (.sfspRxb b) s = execSfspRxb b s := rfl

theorem exec_sfspRxb_of_nothing (hidle : s.Idle) {b : Byte} {t : State} (h : deframeByte b s = (t, .nothing)) :
    exec (.sfspRxb b) s = .next (t.answered voidRsp) := by
  rw [exec_sfspRxb, execSfspRxb, State.whenIdle_of_idle hidle, h]
  simp only [DeframeResult.toOpResult, State.answer_void]

theorem exec_sfspRxb_of_frame (hidle : s.Idle) {b : Byte} {t : State} {f : Bytes}
    (h : deframeByte b s = (t, .frame f)) : exec (.sfspRxb b) s = .next (t.answered (valueRsp f)) := by
  rw [exec_sfspRxb, execSfspRxb, State.whenIdle_of_idle hidle, h]
  simp only [DeframeResult.toOpResult, State.answer_value]

end

/-! Commands one after another. -/

theorem execSeq_cons_of_next {i : Instr} {s t : State} (h : exec i s = .next t) (is : List Instr) :
    execSeq (i :: is) s = execSeq is t := by
  rw [execSeq, h]

theorem execSeq_append_of_next {is : List Instr} {s t : State} (h : execSeq is s = .next t) (js : List Instr) :
    execSeq (is ++ js) s = execSeq js t := by
  induction is generalizing s with
  | nil => cases h; rfl
  | cons i is ih =>
    rw [execSeq] at h
    rw [List.cons_append, execSeq]
    cases hi : exec i s with
    | next u => rw [hi] at h; exact ih h
    | fault r => rw [hi] at h; cases h
    | refused r => rw [hi] at h; cases h

/-! A run inside a frame. -/

/-- The block some bytes after an idle `s`, inside a frame: `n` bytes have been answered without a result, and those
behind `START` have given `f`. -/
def State.inFrame (f : Bytes) (n : Nat) (s : State) : State :=
  { s with
    escState := .body
    rxbuf := f
    rxtag := List.replicate f.length false
    rxbufValid := false
    errKind := .none
    errInfo := 0
    rsp := s.rsp ++ List.replicate n voidRsp }

section
variable {s : State}

theorem State.inFrame_idle (h : s.Idle) (f : Bytes) (n : Nat) : (s.inFrame f n).Idle :=
  (State.idle_congr rfl rfl rfl).2 h

/-- `START` begins a frame in any state of the deframer. -/
theorem exec_sfspRxb_start (h : s.Idle) : exec (.sfspRxb 0x95) s = .next (s.inFrame [] 1) :=
  exec_sfspRxb_of_nothing h (deframeByte_start s)

/-- A stored byte and its answer lengthen the frame. -/
theorem State.inFrame_store (d : Byte) (f : Bytes) (n : Nat) (s : State) :
    ({ (s.inFrame f n).appendRx false d with escState := .body } : State).answered voidRsp =
      s.inFrame (f ++ [d]) (n + 1) := by
  simp [State.inFrame, State.appendRx, State.answered, List.replicate_succ']

theorem exec_sfspRxb_copy (h : s.Idle) {f : Bytes} (hroom : f.length < s.params.maxbuf) {b : Byte} (hstart : b ≠ 0x95)
    (hend : b ≠ 0xEA) (hesc : b ≠ 0xBB) (n : Nat) :
    exec (.sfspRxb b) (s.inFrame f n) = .next (s.inFrame (f ++ [b]) (n + 1)) := by
  have hrow : deframeByte b (s.inFrame f n) =
      ({ (s.inFrame f n).appendRx false b with escState := .body }, .nothing) := by
    rw [deframeByte_body_copy rfl hstart hend hesc]
    exact deframeStore_of_lt hroom b
  rw [exec_sfspRxb_of_nothing (State.inFrame_idle h f n) hrow, State.inFrame_store]

/-- `ESC` stores nothing; the byte behind it is stored XOR `ESC`. -/
theorem execSeq_sfspRxb_pair (h : s.Idle) {f : Bytes} (hroom : f.length < s.params.maxbuf) {c : Byte} (hstart : c ≠ 0x95)
    (hend : c ≠ 0xEA) (n : Nat) :
    execSeq [.sfspRxb 0xBB, .sfspRxb c] (s.inFrame f n) = .next (s.inFrame (f ++ [c ^^^ 0xBB]) (n + 2)) := by
  have hesc := exec_sfspRxb_of_nothing (State.inFrame_idle h f n) (deframeByte_body_esc rfl)
  have hidle : (({ s.inFrame f n with escState := .escaped } : State).answered voidRsp).Idle :=
    (State.idle_congr rfl rfl rfl).2 h
  have hrow : deframeByte c (({ s.inFrame f n with escState := .escaped } : State).answered voidRsp) =
      ({ (s.inFrame f (n + 1)).appendRx false (c ^^^ 0xBB) with escState := .body }, .nothing) := by
    rw [deframeByte_escaped_pair rfl hstart hend, deframeStore_of_lt hroom]
    simp [State.inFrame, State.appendRx, State.answered, List.replicate_succ']
  rw [execSeq_cons_of_next hesc, execSeq_cons_of_next (exec_sfspRxb_of_nothing hidle hrow), State.inFrame_store]
  rfl

/-- The image of a byte gives the byte back. -/
theorem execSeq_sfspRxb_escapeByte (h : s.Idle) {f : Bytes} (hroom : f.length < s.params.maxbuf) (b : Byte) (n : Nat) :
    execSeq ((escapeByte b).map .sfspRxb) (s.inFrame f n) =
      .next (s.inFrame (f ++ [b]) (n + (escapeByte b).length)) := by
  rcases escapeByte_copy_or_pair b with ⟨hstart, hend, hesc, hcopy⟩ | ⟨c, hstart, hend, hxor, hpair⟩
  · rw [hcopy]
    exact execSeq_cons_of_next (exec_sfspRxb_copy h hroom hstart hend hesc n) []
  · rw [hpair, ← hxor]
    exact execSeq_sfspRxb_pair h hroom hstart hend n

/-- An escaped string that fits the buffer is stored decoded, with one answer for each of its bytes. -/
theorem execSeq_sfspRxb_escape (h : s.Idle) {f g : Bytes} (hroom : f.length + g.length ≤ s.params.maxbuf) (n : Nat) :
    execSeq ((escape g).map .sfspRxb) (s.inFrame f n) = .next (s.inFrame (f ++ g) (n + (escape g).length)) := by
  induction g generalizing f n with
  | nil => simp [execSeq]
  | cons b g ih =>
    rw [List.length_cons] at hroom
    have hbyte := execSeq_sfspRxb_escapeByte (f := f) h (by omega) b n
    have hrest := ih (f := f ++ [b]) (by rw [List.length_append, List.length_singleton]; omega)
      (n + (escapeByte b).length)
    rw [escape_cons, List.map_append, execSeq_append_of_next hbyte, hrest, List.append_assoc, List.length_append,
      Nat.add_assoc]
    rfl

/-- `END` ends the frame with its bytes as the result. -/
theorem exec_sfspRxb_end (h : s.Idle) (f : Bytes) (n : Nat) :
    exec (.sfspRxb 0xEA) (s.inFrame f n) =
      .next (({ s.inFrame f n with escState := .hunt } : State).answered (valueRsp f)) :=
  exec_sfspRxb_of_frame (State.inFrame_idle h f n) (deframeByte_body_end rfl)

/-- The whole next state after the bytes of a wrapped frame. -/
theorem execSeq_sfspRxb_wrap (h : s.Idle) {f : Bytes} (hfit : f.length ≤ s.params.maxbuf) :
    execSeq ((sfspWrap f).map .sfspRxb) s =
      .next (({ s.inFrame f ((escape f).length + 1) with escState := .hunt } : State).answered (valueRsp f)) := by
  have hbody : execSeq ((escape f).map .sfspRxb) (s.inFrame [] 1) = .next (s.inFrame f (1 + (escape f).length)) :=
    execSeq_sfspRxb_escape h (by rwa [List.length_nil, Nat.zero_add]) 1
  rw [sfspWrap, List.map_cons, List.map_append, Config.startByte, Config.endByte,
    execSeq_cons_of_next (exec_sfspRxb_start h), execSeq_append_of_next hbody, Nat.add_comm 1]
  exact execSeq_cons_of_next (exec_sfspRxb_end h f _) []

end

theorem sfspWrap_length (f : Bytes) : (sfspWrap f).length = (escape f).length + 2 := by
  rw [sfspWrap, List.length_cons, List.length_append, List.length_singleton]

/-- Settles O34: `START` opens a frame in any state, each image gives its byte back, `END` closes the frame. -/
theorem deframerRecoversWrappedFrame : Obligations.DeframerRecoversWrappedFrame := by
  intro s f hidle hfit
  refine ⟨_, execSeq_sfspRxb_wrap hidle hfit, ?_, rfl, rfl⟩
  rw [sfspWrap_length]
  rfl

end Sys2Proof.Machine

/-! The PJON frame as `PJON.BUILD` and `PJON.SEND` make it (spec/43_pjon_frame.md R201 to R205). -/

namespace Sys2Proof.Machine

/-! The parts of a frame, by the length of its payload (R202). -/

theorem pjonUsesCrc32_of_le {p : Bytes} (h : p.length ≤ 9) : pjonUsesCrc32 p = false := by
  rw [← Bool.not_eq_true, pjonUsesCrc32_iff]
  omega

theorem pjonHead_of_le {p : Bytes} (h : p.length ≤ 9) (target : Byte) :
    pjonHead target p = [target, 0x02, BitVec.ofNat 8 (p.length + 6)] := by
  rw [pjonHead, pjonUsesCrc32_of_le h, Config.hdrCrc8]
  rfl

theorem pjonHead_of_ge {p : Bytes} (h : 10 ≤ p.length) (target : Byte) :
    pjonHead target p = [target, 0x22, BitVec.ofNat 8 (p.length + 9)] := by
  rw [pjonHead, (pjonUsesCrc32_iff p).2 h, Config.hdrCrc32]
  rfl

theorem pjonBody_eq_append (target sender : Byte) (p : Bytes) :
    pjonBody target sender p = pjonHead target p ++ [crc8 (pjonHead target p), sender] ++ p := by
  rw [pjonBody, List.append_assoc]
  rfl

theorem pjonFrame_of_le {p : Bytes} (h : p.length ≤ 9) (target sender : Byte) :
    pjonFrame target sender p = pjonBody target sender p ++ [crc8 (pjonBody target sender p)] := by
  rw [pjonFrame, pjonUsesCrc32_of_le h]
  rfl

theorem pjonFrame_of_ge {p : Bytes} (h : 10 ≤ p.length) (target sender : Byte) :
    pjonFrame target sender p = pjonBody target sender p ++ be32 (crc32 (pjonBody target sender p)) := by
  rw [pjonFrame, (pjonUsesCrc32_iff p).2 h]
  rfl

/-! What a build writes, by the length of the payload (R203). -/

theorem pjonBuildFrame_of_le {p : Bytes} (h : p.length ≤ 9) (s : State) :
    pjonBuildFrame p s = { s with
      txbuf := pjonFrame s.cfg.targetId s.cfg.deviceId p
      crc8Reg := crc8 (pjonBody s.cfg.targetId s.cfg.deviceId p) } := by
  rw [pjonBuildFrame_eq, pjonUsesCrc32_of_le h]
  rfl

theorem pjonBuildFrame_of_ge {p : Bytes} (h : 10 ≤ p.length) (s : State) :
    pjonBuildFrame p s = { s with
      txbuf := pjonFrame s.cfg.targetId s.cfg.deviceId p
      crc8Reg := crc8 (pjonHead s.cfg.targetId p)
      crc32Reg := crc32 (pjonBody s.cfg.targetId s.cfg.deviceId p) ^^^ 0xFFFFFFFF } := by
  rw [pjonBuildFrame_eq, (pjonUsesCrc32_iff p).2 h, ← crc32Raw_eq]
  rfl

/-! The limit on a payload (R201). -/

theorem State.whenLegal_pjonPayload_of_le {p : Bytes} (h : p.length ≤ 246) (run : State → State) (s : State) :
    s.whenLegal (pjonPayloadLegal p) run = run s := by
  rw [(pjonPayloadLegal_iff p).2 h, State.whenLegal_true]

theorem State.whenLegal_pjonPayload_of_ge {s : State} (hidle : s.Idle) {p : Bytes} (h : 247 ≤ p.length)
    (run : State → State) : s.whenLegal (pjonPayloadLegal p) run = s.ended .illegalOperand 0 := by
  have hillegal : pjonPayloadLegal p = false := by
    rw [← Bool.not_eq_true, pjonPayloadLegal_iff]
    omega
  rw [hillegal, State.whenLegal_false, State.refuse_of_idle hidle]

/-! What the two operations do on an idle block (R203, R205). -/

theorem exec_pjonBuild (p : Bytes) (s : State) : exec (.pjonBuild p) s = execPjonBuild p s := rfl
theorem exec_pjonSend (p : Bytes) (s : State) : exec (.pjonSend p) s = execPjonSend p s := rfl

section
variable {s : State} {p : Bytes}

theorem exec_pjonBuild_of_le (h : s.Idle) (hp : p.length ≤ 246) :
    exec (.pjonBuild p) s =
      .next ((pjonBuildFrame p s).answered (valueRsp (pjonFrame s.cfg.targetId s.cfg.deviceId p))) := by
  rw [exec_pjonBuild, execPjonBuild, State.whenIdle_of_idle h, State.whenLegal_pjonPayload_of_le hp,
    State.answer_value]

theorem exec_pjonBuild_of_ge (h : s.Idle) (hp : 247 ≤ p.length) :
    exec (.pjonBuild p) s = .next (s.ended .illegalOperand 0) := by
  rw [exec_pjonBuild, execPjonBuild, State.whenIdle_of_idle h, State.whenLegal_pjonPayload_of_ge h hp]

theorem exec_pjonSend_of_le (h : s.Idle) (hp : p.length ≤ 246) :
    exec (.pjonSend p) s = .next ((pjonSendFrame p s).answered voidRsp) := by
  rw [exec_pjonSend, execPjonSend, State.whenIdle_of_idle h, State.whenLegal_pjonPayload_of_le hp,
    State.answer_void]

theorem exec_pjonSend_of_ge (h : s.Idle) (hp : 247 ≤ p.length) :
    exec (.pjonSend p) s = .next (s.ended .illegalOperand 0) := by
  rw [exec_pjonSend, execPjonSend, State.whenIdle_of_idle h, State.whenLegal_pjonPayload_of_ge h hp]

end

/-- Settles O35: the length of the payload decides head, trailer and check registers; the body is the same
function of the head for both. -/
theorem pjonBuildLayout : Obligations.PjonBuildLayout := by
  refine ⟨fun p => decode_fmtS rfl, fun s p hidle => ⟨?_, ?_, exec_pjonBuild_of_ge hidle⟩⟩
  · intro hshort head body hhead hbody
    have hh : head = pjonHead s.cfg.targetId p := hhead.trans (pjonHead_of_le hshort _).symm
    have hb : body = pjonBody s.cfg.targetId s.cfg.deviceId p := by rw [hbody, hh, pjonBody_eq_append]
    rw [exec_pjonBuild_of_le hidle (by omega), pjonBuildFrame_of_le hshort, pjonFrame_of_le hshort, hb]
  · intro hlong hfit head body hhead hbody
    have hh : head = pjonHead s.cfg.targetId p := hhead.trans (pjonHead_of_ge hlong _).symm
    have hb : body = pjonBody s.cfg.targetId s.cfg.deviceId p := by rw [hbody, hh, pjonBody_eq_append]
    rw [exec_pjonBuild_of_le hidle hfit, pjonBuildFrame_of_ge hlong, pjonFrame_of_ge hlong, hb, hh]

/-- Settles O36: `pjonSendFrame_eq` makes a send the build with one more line trace, that of the frame the build
leaves in `TXBUF`. -/
theorem pjonSendEmitsWrappedFrame : Obligations.PjonSendEmitsWrappedFrame := by
  refine ⟨fun p => decode_fmtS rfl, fun s p hidle => ⟨fun hfit => ?_, exec_pjonSend_of_ge hidle⟩⟩
  refine ⟨_, exec_pjonBuild_of_le hidle hfit, ?_⟩
  rw [exec_pjonSend_of_le hidle hfit, pjonSendFrame_eq, pjonBuildFrame_eq]
  rfl

end Sys2Proof.Machine

/-! The parity mode of a symbol and the character sent under it (spec/44_serial9.md R242 to R247). -/

namespace Sys2Proof.Machine

/-! The modes selected on line hardware with mark and space modes (R242) and without them (R243). -/

theorem selectMode_direct (a : Bool) (d : Byte) : selectMode true a d = if a then .mark else .space := rfl

theorem selectMode_emulated_of_eq {a : Bool} {d : Byte} (h : par8 d = a) : selectMode false a d = .even := by
  rw [selectMode, h, Bool.xor_self]
  rfl

theorem selectMode_emulated_of_ne {a : Bool} {d : Byte} (h : par8 d ≠ a) : selectMode false a d = .odd := by
  rw [selectMode, Bool.xor_iff_ne.2 h]
  rfl

/-- The emulated case splits on whether the natural parity of the byte already is the address bit (R245). -/
@[simp] theorem parityBit_selectMode (spacemark a : Bool) (d : Byte) :
    parityBit (selectMode spacemark a d) d = a := by
  cases spacemark with
  | true =>
    rw [selectMode_direct]
    cases a <;> rfl
  | false =>
    by_cases h : par8 d = a
    · rw [selectMode_emulated_of_eq h]
      exact h
    · rw [selectMode_emulated_of_ne h]
      exact (Bool.eq_not.2 (Ne.symm h)).symm

/-! The character of a symbol (R246, R247). -/

/-- Bit by bit: the shift puts `d[i - 1]` at bit `i`. -/
theorem zeroExtend_shiftLeft_one_eq_append (d : Byte) : d.zeroExtend 11 <<< 1 = 0#2 ++ d ++ 0#1 := by
  refine BitVec.eq_of_getLsbD_eq fun i hi => ?_
  grind

/-- R247's arithmetic form of a character has the fields of R246: stop bit, parity position, data, start bit. -/
theorem symbolChar_eq_append (a : Bool) (d : Byte) :
    symbolChar a d = 1#1 ++ BitVec.ofBool a ++ d ++ 0#1 := by
  have hmarks : (if a then 0x200 else 0) ||| (0x400 : BitVec 11) = 1#1 ++ BitVec.ofBool a ++ 0#8 ++ 0#1 := by
    cases a <;> rfl
  rw [symbolChar, BitVec.or_assoc, zeroExtend_shiftLeft_one_eq_append, hmarks, BitVec.or_append, BitVec.or_append,
    BitVec.zero_or, BitVec.or_zero, BitVec.or_zero]

/-- The mode enters a character only as its parity bit. -/
@[simp] theorem lineChar_selectMode (spacemark a : Bool) (d : Byte) :
    lineChar (selectMode spacemark a d) d = symbolChar a d := by
  rw [lineChar, parityBit_selectMode, symbolChar_eq_append]

/-- Settles O45: the parity bit under the selected mode, and with it the whole character. -/
theorem selectedModeSendsAddressBit : Obligations.SelectedModeSendsAddressBit :=
  ⟨parityBit_selectMode, lineChar_selectMode⟩

end Sys2Proof.Machine

/-! A 9-bit frame as `T9.BUILD` makes it and `T9.SEND` puts it on the line (spec/45_transport9.md R270 to R273). -/

namespace Sys2Proof.Machine

/-! The symbols of a frame (R270). -/

/-- Only the first byte carries the address bit, so a byte behind others is a data symbol. -/
theorem t9Symbols_concat {bs : Bytes} (h : bs ≠ []) (b : Byte) :
    t9Symbols (bs ++ [b]) = t9Symbols bs ++ [(false, b)] := by
  cases bs with
  | nil => contradiction
  | cons x xs => simp [t9Symbols]

/-- A frame ends with the low check byte, which is never its first byte. -/
theorem getLast?_t9Symbols_t9Frame (d : Bytes) :
    (t9Symbols (t9Frame d)).getLast? = some (false, lo8 (chk16 d)) := by
  have hframe : t9Frame d = d ++ [hi8 (chk16 d)] ++ [lo8 (chk16 d)] := by simp [t9Frame, be16]
  rw [hframe, t9Symbols_concat (by simp), List.getLast?_concat]

/-! What a frame puts on the line (R272). -/

@[simp] theorem symbolEvents_mk (cfg : Cfg) (a : Bool) (d : Byte) : symbolEvents cfg (a, d) = symbolTrace cfg a d := by
  rw [symbolEvents, lineChar_selectMode, symbolTrace]

theorem flatMap_symbolEvents_t9Symbols (cfg : Cfg) (bs : Bytes) :
    (t9Symbols bs).flatMap (symbolEvents cfg) = frameTrace cfg bs := by
  cases bs with
  | nil => rfl
  | cons b bs => simp [t9Symbols, frameTrace, List.flatMap_map]

/-- The registers and the line after a send: `S9.PMODE` is left at the mode of the low check byte. -/
theorem t9SendFrame_eq_frameTrace (d : Bytes) (s : State) :
    t9SendFrame d s = { s with
      txbuf := t9Frame d
      chk16Acc := chk16 d
      s9Pmode := .known (selectMode s.cfg.spacemark false (lo8 (chk16 d)))
      lineTx := s.lineTx ++ frameTrace s.cfg (t9Frame d) } := by
  rw [t9SendFrame_eq, getLast?_t9Symbols_t9Frame, flatMap_symbolEvents_t9Symbols]

/-! The limit on the data of a frame (R271). -/

theorem State.whenLegal_t9Data_of_le {s : State} {d : Bytes} (hd : d ≠ []) (h : d.length + 2 ≤ s.params.maxbuf)
    (run : State → State) : s.whenLegal (s.t9DataLegal d) run = run s := by
  rw [(State.t9DataLegal_iff d s).2 ⟨hd, h⟩, State.whenLegal_true]

theorem State.whenLegal_t9Data_of_misfit {s : State} (hidle : s.Idle) {d : Bytes}
    (h : d = [] ∨ s.params.maxbuf < d.length + 2) (run : State → State) :
    s.whenLegal (s.t9DataLegal d) run = s.ended .illegalOperand 0 := by
  have hillegal : s.t9DataLegal d = false := by
    rw [← Bool.not_eq_true, State.t9DataLegal_iff, not_and_or, not_not, Nat.not_le]
    exact h
  rw [hillegal, State.whenLegal_false, State.refuse_of_idle hidle]

/-! What the two operations do on an idle block (R271, R272). -/

theorem exec_t9Build (d : Bytes) (s : State) : exec (.t9Build d) s = execT9Build d s := rfl
theorem exec_t9Send (d : Bytes) (s : State) : exec (.t9Send d) s = execT9Send d s := rfl

section
variable {s : State} {d : Bytes}

theorem exec_t9Build_of_le (h : s.Idle) (hd : d ≠ []) (hfit : d.length + 2 ≤ s.params.maxbuf) :
    exec (.t9Build d) s = .next ((t9BuildFrame d s).answered (valueRsp (t9Frame d))) := by
  rw [exec_t9Build, execT9Build, State.whenIdle_of_idle h, State.whenLegal_t9Data_of_le hd hfit, State.answer_value]

theorem exec_t9Build_of_misfit (h : s.Idle) (hd : d = [] ∨ s.params.maxbuf < d.length + 2) :
    exec (.t9Build d) s = .next (s.ended .illegalOperand 0) := by
  rw [exec_t9Build, execT9Build, State.whenIdle_of_idle h, State.whenLegal_t9Data_of_misfit h hd]

theorem exec_t9Send_of_le (h : s.Idle) (hd : d ≠ []) (hfit : d.length + 2 ≤ s.params.maxbuf) :
    exec (.t9Send d) s = .next ((t9SendFrame d s).answered voidRsp) := by
  rw [exec_t9Send, execT9Send, State.whenIdle_of_idle h, State.whenLegal_t9Data_of_le hd hfit, State.answer_void]

theorem exec_t9Send_of_misfit (h : s.Idle) (hd : d = [] ∨ s.params.maxbuf < d.length + 2) :
    exec (.t9Send d) s = .next (s.ended .illegalOperand 0) := by
  rw [exec_t9Send, execT9Send, State.whenIdle_of_idle h, State.whenLegal_t9Data_of_misfit h hd]

end

/-- Settles O48: data within the limit is built, and a send is the build with the frame's line trace; the trace and the
mode it leaves are `t9SendFrame_eq_frameTrace`. -/
theorem nineBitBuildAndSend : Obligations.NineBitBuildAndSend := by
  refine ⟨fun d hlen => ⟨decode_fmtS rfl hlen, decode_fmtS rfl hlen⟩,
    fun s d hidle => ⟨fun hd hfit => ?_, fun hd => ?_⟩⟩
  · constructor
    · exact exec_t9Build_of_le hidle hd hfit
    · rw [exec_t9Send_of_le hidle hd hfit, t9SendFrame_eq_frameTrace]
      rfl
  · exact ⟨exec_t9Build_of_misfit hidle hd, exec_t9Send_of_misfit hidle hd⟩

end Sys2Proof.Machine

/-! The validation of a 9-bit capture against an expected length (spec/45_transport9.md R282, R284). -/

namespace Sys2Proof.Machine

/-! Operand strings behind an expected length: format T (spec/30_encoding.md R104). -/

/-- `0xFFFF` stands for no expected length, so every other one is read back. -/
theorem parseExplen_getD {e : Option (BitVec 16)} (h : e ≠ some 0xFFFF) :
    parseExplen (hi8 (e.getD 0xFFFF)) (lo8 (e.getD 0xFFFF)) = e := by
  rw [parseExplen, u16be_hi8_lo8]
  cases e with
  | none => rfl
  | some v => exact if_neg fun hv => h (congrArg some hv)

/-- The command of a row in format T decodes to its operation. -/
theorem decode_fmtT {op : Byte} {mk : Option (BitVec 16) → Bytes → Instr} (hrow : opRow op = some (.fmtT mk))
    {e : Option (BitVec 16)} (he : e ≠ some 0xFFFF) {f : Bytes} (h : f.length < 65536) :
    decode (op :: (be16 (e.getD 0xFFFF) ++ be16 (BitVec.ofNat 16 f.length) ++ f)) = .ok (mk e f) := by
  have hoperands : be16 (e.getD 0xFFFF) ++ be16 (BitVec.ofNat 16 f.length) ++ f =
      hi8 (e.getD 0xFFFF) :: lo8 (e.getD 0xFFFF) :: (be16 (BitVec.ofNat 16 f.length) ++ f) := rfl
  simp only [decode, hrow, hoperands, OpRow.parse, parseString_be16_length h, parseExplen_getD he, Option.map_some]

/-! The trim (R282). -/

theorem take_trimLength_none (f : Bytes) : f.take (trimLength none f.length) = f := List.take_length

theorem take_trimLength_some (v : BitVec 16) (f : Bytes) :
    f.take (trimLength (some v) f.length) = if v.toNat + 2 < f.length then f.take (v.toNat + 2) else f := by
  rw [trimLength]
  split
  · next hlong => rw [Nat.min_eq_right (Nat.le_of_lt hlong)]
  · next hshort => rw [Nat.min_eq_left (Nat.not_lt.1 hshort), List.take_length]

/-- `T9.VAL` is the trim followed by `CHK16.VAL` (R284), on a busy block too. -/
theorem exec_t9Val_eq_chk16Val (e : Option (BitVec 16)) (f : Bytes) (s : State) :
    exec (.t9Val e f) s = exec (.chk16Val (f.take (trimLength e f.length))) s := rfl

/-- Settles O49: what `CHK16.VAL` answers for the trimmed capture (R140). -/
theorem nineBitValidateTrims : Obligations.NineBitValidateTrims := by
  refine ⟨fun e f he => decode_fmtT rfl he, fun s e f g hidle hg => ?_⟩
  have htrim : g = f.take (trimLength e f.length) := by
    cases e with
    | none => rw [hg, take_trimLength_none]
    | some v => rw [hg, take_trimLength_some]
  rw [exec_t9Val_eq_chk16Val, ← htrim]
  refine ⟨exec_chk16Val_of_short hidle, fun d hi lo hd hframe => ?_⟩
  rw [hframe]
  exact ⟨exec_chk16Val_of_match hidle hd, exec_chk16Val_of_mismatch hidle hd⟩

end Sys2Proof.Machine

/-! The packet-structure codec on an idle block (spec/46_packet_codec.md R301 to R304). -/

namespace Sys2Proof.Machine

/-! The command of a packet operation: format P (spec/30_encoding.md R104). -/

/-- The command of a row in format P decodes to its operation. -/
theorem decode_fmtP {op : Byte} {mk : Byte → Byte → BitVec 16 → BitVec 16 → Instr}
    (hrow : opRow op = some (.fmtP mk)) (port ty : Byte) (ad pa : BitVec 16) :
    decode (op :: packetBody port ty ad pa) = .ok (mk port ty ad pa) := by
  simp only [decode, hrow, packetBody, OpRow.parse, u16be_hi8_lo8]

/-! The body of a packet and its inverse (R301, R302). -/

@[simp] theorem encodePacket_eq_packetBody (port ty : Byte) (ad pa : BitVec 16) :
    encodePacket port ty ad pa = packetBody port ty ad pa := rfl

/-- Each 16-bit field is read back from its two bytes. -/
@[simp] theorem pktDecode_packetBody (port ty : Byte) (ad pa : BitVec 16) :
    pktDecode (packetBody port ty ad pa) = (port, ty, ad, pa) := by
  change (port, ty, u16be (hi8 ad) (lo8 ad), u16be (hi8 pa) (lo8 pa)) = _
  rw [u16be_hi8_lo8, u16be_hi8_lo8]

/-- Six data bytes fit the length field of an answer (R107). -/
theorem valueRsp_packetBody (port ty : Byte) (ad pa : BitVec 16) : valueRsp (packetBody port ty ad pa) =
    [0x00, 0x00, 0x00, 0x01, 0x00, 0x06, port, ty, hi8 ad, lo8 ad, hi8 pa, lo8 pa] := by
  have hlength : be16 (rspLength (packetBody port ty ad pa).length) = [0x00, 0x06] := by
    change be16 (rspLength 6) = _
    decide
  rw [valueRsp, hlength]
  rfl

/-! The limits on port and type (R301). -/

theorem State.whenLegal_packet_of_legal {port ty : Byte} (hport : port.toNat ≤ 9) (hty : ty.toNat ∈ [2, 3, 4, 22])
    (run : State → State) (s : State) : s.whenLegal (packetLegal port ty) run = run s := by
  rw [(packetLegal_iff port ty).2 ⟨hport, hty⟩, State.whenLegal_true]

theorem State.whenLegal_packet_of_illegal {s : State} (hidle : s.Idle) {port ty : Byte}
    (h : 9 < port.toNat ∨ ty.toNat ∉ [2, 3, 4, 22]) (run : State → State) :
    s.whenLegal (packetLegal port ty) run = s.ended .illegalOperand 0 := by
  have hillegal : packetLegal port ty = false := by
    rw [← Bool.not_eq_true, packetLegal_iff, not_and_or, Nat.not_le]
    exact h
  rw [hillegal, State.whenLegal_false, State.refuse_of_idle hidle]

/-! The status byte of a response (R303). -/

theorem getLsbD_seven_iff (b : Byte) : b.getLsbD 7 = true ↔ 128 ≤ b.toNat := by
  rw [← BitVec.msb_eq_getLsbD_last, BitVec.msb_eq_decide, decide_eq_true_iff]

/-- Without its high bit a byte is 128 less. -/
theorem zeroExtend_extractLsb'_seven {b : Byte} (h : 128 ≤ b.toNat) :
    (b.extractLsb' 0 7).zeroExtend 16 = BitVec.ofNat 16 (b.toNat - 128) := by
  apply BitVec.eq_of_toNat_eq
  have hb := b.isLt
  simp only [BitVec.truncate_eq_setWidth, BitVec.toNat_setWidth, BitVec.extractLsb'_toNat, Nat.shiftRight_zero,
    BitVec.toNat_ofNat]
  omega

theorem pktResponse_of_short {r : Bytes} (h : r.length < 2) :
    pktResponse r = .err .frameTooShort (info16 r.length) := if_pos h

/-- A status byte with a payload is long enough; its high bit decides. -/
theorem pktResponse_cons {p : Bytes} (hp : p ≠ []) (st : Byte) :
    pktResponse (st :: p) = if 128 ≤ st.toNat then .err .invalidCommandAck (BitVec.ofNat 16 (st.toNat - 128))
      else .value p := by
  have hlong : ¬ (st :: p).length < 2 := by
    have hpos := List.length_pos_iff.2 hp
    rw [List.length_cons]
    omega
  rw [pktResponse, if_neg hlong, List.getD_cons_zero]
  by_cases hst : 128 ≤ st.toNat
  · rw [if_pos ((getLsbD_seven_iff st).2 hst), if_pos hst, zeroExtend_extractLsb'_seven hst]
  · rw [if_neg (mt (getLsbD_seven_iff st).1 hst), if_neg hst, List.drop_one, List.tail_cons]

/-! The value of a payload (R304). -/

@[simp] theorem be16_u16be (hi lo : Byte) : be16 (u16be hi lo) = [hi, lo] := by
  have hhi : hi8 (u16be hi lo) = hi := BitVec.extractLsb'_append_eq_left
  have hlo : lo8 (u16be hi lo) = lo := BitVec.extractLsb'_append_eq_right
  rw [be16, hhi, hlo]

theorem pktValue_pair (b c : Byte) : pktValue [b, c] = .value [b, c] :=
  congrArg OpResult.value (be16_u16be b c)

theorem pktValue_of_length_ne {p : Bytes} (h : p.length ≠ 2) :
    pktValue p = .err .lengthMismatch (info16 p.length) := if_neg h

/-! What the three operations do on an idle block. -/

theorem exec_pktEnc (port ty : Byte) (ad pa : BitVec 16) (s : State) :
    exec (.pktEnc port ty ad pa) s = execPktEnc port ty ad pa s := rfl
theorem exec_pktRsp (r : Bytes) (s : State) : exec (.pktRsp r) s = execPktRsp r s := rfl
theorem exec_pktU16 (p : Bytes) (s : State) : exec (.pktU16 p) s = execPktU16 p s := rfl

section
variable {s : State}

theorem exec_pktEnc_of_legal (h : s.Idle) {port ty : Byte} (hport : port.toNat ≤ 9)
    (hty : ty.toNat ∈ [2, 3, 4, 22]) (ad pa : BitVec 16) :
    exec (.pktEnc port ty ad pa) s = .next (s.answered (valueRsp (packetBody port ty ad pa))) := by
  rw [exec_pktEnc, execPktEnc, State.whenIdle_of_idle h, State.whenLegal_packet_of_legal hport hty,
    State.answer_value, encodePacket_eq_packetBody]

theorem exec_pktEnc_of_illegal (h : s.Idle) {port ty : Byte} (hop : 9 < port.toNat ∨ ty.toNat ∉ [2, 3, 4, 22])
    (ad pa : BitVec 16) : exec (.pktEnc port ty ad pa) s = .next (s.ended .illegalOperand 0) := by
  rw [exec_pktEnc, execPktEnc, State.whenIdle_of_idle h, State.whenLegal_packet_of_illegal h hop]

theorem exec_pktRsp_of_short (h : s.Idle) {r : Bytes} (hr : r.length < 2) :
    exec (.pktRsp r) s = .next (s.ended .frameTooShort (info16 r.length)) := by
  rw [exec_pktRsp, execPktRsp, State.whenIdle_of_idle h, pktResponse_of_short hr,
    State.answer_err (State.inExchange_of_idle h)]

theorem exec_pktRsp_of_accepted (h : s.Idle) {p : Bytes} (hp : p ≠ []) {st : Byte} (hst : st.toNat < 128) :
    exec (.pktRsp (st :: p)) s = .next (s.answered (valueRsp p)) := by
  rw [exec_pktRsp, execPktRsp, State.whenIdle_of_idle h, pktResponse_cons hp, if_neg (Nat.not_le.2 hst),
    State.answer_value]

theorem exec_pktRsp_of_rejected (h : s.Idle) {p : Bytes} (hp : p ≠ []) {st : Byte} (hst : 128 ≤ st.toNat) :
    exec (.pktRsp (st :: p)) s = .next (s.ended .invalidCommandAck (BitVec.ofNat 16 (st.toNat - 128))) := by
  rw [exec_pktRsp, execPktRsp, State.whenIdle_of_idle h, pktResponse_cons hp, if_pos hst,
    State.answer_err (State.inExchange_of_idle h)]

theorem exec_pktU16_pair (h : s.Idle) (b c : Byte) :
    exec (.pktU16 [b, c]) s = .next (s.answered (valueRsp [b, c])) := by
  rw [exec_pktU16, execPktU16, State.whenIdle_of_idle h, pktValue_pair, State.answer_value]

theorem exec_pktU16_of_length_ne (h : s.Idle) {p : Bytes} (hp : p.length ≠ 2) :
    exec (.pktU16 p) s = .next (s.ended .lengthMismatch (info16 p.length)) := by
  rw [exec_pktU16, execPktU16, State.whenIdle_of_idle h, pktValue_of_length_ne hp,
    State.answer_err (State.inExchange_of_idle h)]

end

/-- Settles O52: the operands of the command are the packet body, which `pktDecode` reads back; port and type decide
between the answer and the refusal. -/
theorem packetEncodeLayout : Obligations.PacketEncodeLayout := by
  refine ⟨fun port ty ad pa => ⟨decode_fmtP rfl port ty ad pa, pktDecode_packetBody port ty ad pa⟩,
    fun s port ty ad pa hidle => ⟨fun hport hty => ?_, fun hop => exec_pktEnc_of_illegal hidle hop ad pa⟩⟩
  rw [exec_pktEnc_of_legal hidle hport hty, valueRsp_packetBody]

/-- Settles O53: a response by its length and the high bit of its status byte, a payload by its length. -/
theorem packetResponseAndValue : Obligations.PacketResponseAndValue := by
  refine ⟨fun f hlen => ⟨decode_fmtS rfl hlen, decode_fmtS rfl hlen⟩, fun s hidle => ⟨?_, ?_, ?_, ?_⟩⟩
  · exact fun r => exec_pktRsp_of_short hidle
  · exact fun st p hp => ⟨exec_pktRsp_of_accepted hidle hp, exec_pktRsp_of_rejected hidle hp⟩
  · exact exec_pktU16_pair hidle
  · exact fun p => exec_pktU16_of_length_ne hidle

end Sys2Proof.Machine

/-! Operations on a busy block (spec/47_exchange.md R338). -/

namespace Sys2Proof.Machine

/-- The busy check stands in front of every operation but `RESET` (R338). The operation does not depend on the state it
will run on, so no state can go around the check. -/
theorem exec_eq_whenIdle {i : Instr} (h : i ≠ .reset) : ∃ run : State → State, ∀ s, exec i s = s.whenIdle run := by
  cases i with
  | reset => exact absurd rfl h
  | _ => exact ⟨_, fun _ => rfl⟩

/-- The answer is the only thing a busy block changes, so the error registers keep their values (R384). -/
theorem State.whenIdle_of_busy_frame {s : State} (h : ¬ s.Idle) (run : State → State) :
    s.whenIdle run = .next { s with rsp := s.rsp ++ [errorRsp 0x0F (s.xchState.code.zeroExtend 16)] } := by
  rw [State.whenIdle_of_busy h, State.refuse_of_busy h]
  rfl

/-- Settles O7: the operation is never reached, since the check in front of it refuses. -/
theorem busyRefusesEveryOperation : Obligations.BusyRefusesEveryOperation := by
  intro s i hbusy hreset
  obtain ⟨run, hexec⟩ := exec_eq_whenIdle hreset
  rw [hexec, State.whenIdle_of_busy_frame hbusy]

end Sys2Proof.Machine

/-! The command interface read both ways (spec/30_encoding.md R104 to R106). -/

namespace Sys2Proof.Machine

/-! The operand fields, each with its inverse. -/

theorem stringFits_iff (d : Bytes) : stringFits d = true ↔ d.length < 65536 := decide_eq_true_iff

theorem explenFits_iff (e : Option (BitVec 16)) : explenFits e = true ↔ e ≠ some 0xFFFF := by simp [explenFits]

theorem parseString_eq_some_iff (bs d : Bytes) :
    parseString bs = some d ↔ stringFits d = true ∧ bs = encodeString d := by
  rw [stringFits_iff]
  constructor
  · intro h
    match bs with
    | hi :: lo :: rest =>
      rw [parseString, Option.ite_none_right_eq_some] at h
      obtain ⟨hlen, hrest⟩ := h
      obtain rfl : rest = d := by simpa using hrest
      have hlength : BitVec.ofNat 16 rest.length = u16be hi lo := by rw [hlen, BitVec.ofNat_toNat, BitVec.setWidth_eq]
      refine ⟨hlen ▸ (u16be hi lo).isLt, ?_⟩
      rw [encodeString, hlength, be16_u16be]
      rfl
  · rintro ⟨hlen, rfl⟩
    exact parseString_be16_length hlen

/-- `0xFFFF` is the only value that does not come back as the length it is. -/
theorem parseExplen_eq_iff (hi lo : Byte) (e : Option (BitVec 16)) :
    parseExplen hi lo = e ↔ explenFits e = true ∧ [hi, lo] = encodeExplen e := by
  rw [explenFits_iff]
  constructor
  · rintro rfl
    rw [parseExplen, encodeExplen]
    split
    · next hnone => exact ⟨by simp, by rw [Option.getD_none, ← hnone, be16_u16be]⟩
    · next hsome => exact ⟨by simpa using hsome, by rw [Option.getD_some, be16_u16be]⟩
  · rintro ⟨he, hbytes⟩
    obtain ⟨rfl, rfl⟩ : hi = hi8 (e.getD 0xFFFF) ∧ lo = lo8 (e.getD 0xFFFF) := by
      simpa [encodeExplen, be16] using hbytes
    exact parseExplen_getD he

@[simp] theorem be32_u32be (b₃ b₂ b₁ b₀ : Byte) : be32 (u32be b₃ b₂ b₁ b₀) = [b₃, b₂, b₁, b₀] := by
  unfold be32 u32be
  congr 1
  · exact BitVec.eq_of_getLsbD_eq fun i hi => by grind
  congr 1
  · exact BitVec.eq_of_getLsbD_eq fun i hi => by grind
  congr 1
  · exact BitVec.eq_of_getLsbD_eq fun i hi => by grind
  congr 1
  · exact BitVec.eq_of_getLsbD_eq fun i hi => by grind

/-- The address bit stands in an otherwise empty byte. -/
theorem symbolByte_iff (b : Byte) (a : Bool) :
    (b.extractLsb' 1 7 = 0 ∧ b.getLsbD 0 = a) ↔ b = BitVec.zeroExtend 8 (BitVec.ofBool a) := by
  revert b a; decide

/-- A character stands in the low eleven bits of its two bytes. -/
theorem charWord_iff (v : BitVec 16) (c : BitVec 11) :
    (v.extractLsb' 11 5 = 0 ∧ v.extractLsb' 0 11 = c) ↔ v = c.zeroExtend 16 := by
  have hzero : (0 : BitVec 5).toNat = 0 := rfl
  simp only [← BitVec.toNat_inj, BitVec.extractLsb'_toNat, Nat.shiftRight_eq_div_pow, BitVec.truncate_eq_setWidth,
    BitVec.toNat_setWidth, hzero]
  have := c.isLt
  have := v.isLt
  omega

/-! The formats (R104). -/

/-- The operand bytes lay out an operation's operands in the row's format: what `parse` reads, said by the encoder's
functions. -/
def Lays : OpRow → Bytes → Instr → Prop
  | .fmtN i', bs, i => i = i' ∧ bs = []
  | .fmtB mk, bs, i => ∃ b, i = mk b ∧ bs = [b]
  | .fmtS mk, bs, i => ∃ d, stringFits d = true ∧ i = mk d ∧ bs = encodeString d
  | .fmtT mk, bs, i => ∃ e d, (explenFits e && stringFits d) = true ∧ i = mk e d ∧ bs = encodeExplen e ++ encodeString d
  | .fmtY mk, bs, i => ∃ a d, i = mk a d ∧ bs = encodeSymbol a d
  | .fmtC mk, bs, i => ∃ c : BitVec 11, i = mk c ∧ bs = be16 (c.zeroExtend 16)
  | .fmtR mk, bs, i => ∃ t e, explenFits e = true ∧ i = mk t e ∧ bs = be32 t ++ encodeExplen e
  | .fmtP mk, bs, i => ∃ port ty ad pa, i = mk port ty ad pa ∧ bs = encodePacket port ty ad pa
  | .fmtX mk, bs, i => ∃ port ty ad pa e,
    explenFits e = true ∧ i = mk port ty ad pa e ∧ bs = encodePacket port ty ad pa ++ encodeExplen e
  | .fmtQ mk, bs, i => ∃ port reg v, i = mk port reg v ∧ bs = port :: (be16 reg ++ be16 v)

/-- The parser finds every layout: the operands come back from the bytes the encoder writes for them. -/
theorem parse_of_lays {row : OpRow} {bs : Bytes} {i : Instr} (h : Lays row bs i) : row.parse bs = some i := by
  cases row with
  | fmtN mk => obtain ⟨rfl, rfl⟩ := h; rfl
  | fmtB mk => obtain ⟨b, rfl, rfl⟩ := h; rfl
  | fmtS mk =>
    obtain ⟨d, hd, rfl, rfl⟩ := h
    rw [OpRow.parse, (parseString_eq_some_iff _ d).2 ⟨hd, rfl⟩, Option.map_some]
  | fmtT mk =>
    obtain ⟨e, d, hfits, rfl, rfl⟩ := h
    obtain ⟨he, hd⟩ := Bool.and_eq_true_iff.1 hfits
    rw [encodeExplen, be16, List.cons_append, List.cons_append, List.nil_append, OpRow.parse,
      (parseString_eq_some_iff _ d).2 ⟨hd, rfl⟩, (parseExplen_eq_iff _ _ e).2 ⟨he, rfl⟩, Option.map_some]
  | fmtY mk =>
    obtain ⟨a, d, rfl, rfl⟩ := h
    obtain ⟨hzero, hbit⟩ := (symbolByte_iff _ a).2 rfl
    rw [encodeSymbol, OpRow.parse, if_pos hzero, hbit]
  | fmtC mk =>
    obtain ⟨c, rfl, rfl⟩ := h
    obtain ⟨hzero, hchar⟩ := (charWord_iff _ c).2 rfl
    rw [be16, OpRow.parse, u16be_hi8_lo8, if_pos hzero, hchar]
  | fmtR mk =>
    obtain ⟨t, e, he, rfl, rfl⟩ := h
    change some (mk (u32be _ _ _ _) (parseExplen _ _)) = _
    rw [u32be_extract, (parseExplen_eq_iff _ _ e).2 ⟨he, rfl⟩]
  | fmtP mk =>
    obtain ⟨port, ty, ad, pa, rfl, rfl⟩ := h
    change some (mk port ty (u16be (hi8 ad) (lo8 ad)) (u16be (hi8 pa) (lo8 pa))) = _
    rw [u16be_hi8_lo8, u16be_hi8_lo8]
  | fmtX mk =>
    obtain ⟨port, ty, ad, pa, e, he, rfl, rfl⟩ := h
    change some (mk port ty (u16be (hi8 ad) (lo8 ad)) (u16be (hi8 pa) (lo8 pa)) (parseExplen _ _)) = _
    rw [u16be_hi8_lo8, u16be_hi8_lo8, (parseExplen_eq_iff _ _ e).2 ⟨he, rfl⟩]
  | fmtQ mk =>
    obtain ⟨port, reg, v, rfl, rfl⟩ := h
    change some (mk port (u16be (hi8 reg) (lo8 reg)) (u16be (hi8 v) (lo8 v))) = _
    rw [u16be_hi8_lo8, u16be_hi8_lo8]

/-- What the parser reads is laid out in the bytes: a fitting length and empty must-be-zero bits leave nothing over. -/
theorem lays_of_parse {row : OpRow} {bs : Bytes} {i : Instr} (h : row.parse bs = some i) : Lays row bs i := by
  unfold OpRow.parse at h
  split at h
  case h_1 i' => exact ⟨(Option.some.inj h).symm, rfl⟩
  case h_2 mk b => exact ⟨b, (Option.some.inj h).symm, rfl⟩
  case h_3 =>
    obtain ⟨d, hd, rfl⟩ := Option.map_eq_some_iff.1 h
    obtain ⟨hfits, hbytes⟩ := (parseString_eq_some_iff _ d).1 hd
    exact ⟨d, hfits, rfl, hbytes⟩
  case h_4 mk ehi elo bs =>
    obtain ⟨d, hd, rfl⟩ := Option.map_eq_some_iff.1 h
    obtain ⟨hfits, rfl⟩ := (parseString_eq_some_iff bs d).1 hd
    obtain ⟨he, hbytes⟩ := (parseExplen_eq_iff ehi elo _).1 rfl
    exact ⟨_, d, Bool.and_eq_true_iff.2 ⟨he, hfits⟩, rfl, by rw [← hbytes]; rfl⟩
  case h_5 mk a d =>
    rw [Option.ite_none_right_eq_some] at h
    obtain ⟨hzero, hi⟩ := h
    exact ⟨_, d, (Option.some.inj hi).symm, by rw [encodeSymbol, ← (symbolByte_iff a _).1 ⟨hzero, rfl⟩]⟩
  case h_6 mk hi lo =>
    rw [Option.ite_none_right_eq_some] at h
    obtain ⟨hzero, hi⟩ := h
    exact ⟨_, (Option.some.inj hi).symm, by rw [← (charWord_iff _ _).1 ⟨hzero, rfl⟩, be16_u16be]⟩
  case h_7 mk t3 t2 t1 t0 ehi elo =>
    obtain ⟨he, hbytes⟩ := (parseExplen_eq_iff ehi elo _).1 rfl
    exact ⟨_, _, he, (Option.some.inj h).symm, by rw [be32_u32be, ← hbytes]; rfl⟩
  case h_8 mk port ty ahi alo phi plo =>
    exact ⟨_, _, _, _, (Option.some.inj h).symm, by rw [encodePacket, be16_u16be, be16_u16be]; rfl⟩
  case h_9 mk port ty ahi alo phi plo ehi elo =>
    obtain ⟨he, hbytes⟩ := (parseExplen_eq_iff ehi elo _).1 rfl
    exact ⟨_, _, _, _, _, he, (Option.some.inj h).symm,
      by rw [encodePacket, be16_u16be, be16_u16be, ← hbytes]; rfl⟩
  case h_10 mk port rhi rlo vhi vlo =>
    exact ⟨_, _, _, (Option.some.inj h).symm, by rw [be16_u16be, be16_u16be]; rfl⟩
  case h_11 => cases h

/-! The decoder (R105). -/

theorem decode_eq_ok_iff (bytes : Bytes) (i : Instr) :
    decode bytes = .ok i ↔ ∃ op operands row, bytes = op :: operands ∧ opRow op = some row ∧ Lays row operands i := by
  constructor
  · intro h
    unfold decode at h
    split at h
    · cases h
    · next op operands =>
      split at h
      · cases h
      · next row hrow =>
        split at h
        · next j hparse =>
          cases h
          exact ⟨op, operands, row, rfl, hrow, lays_of_parse hparse⟩
        · cases h
  · rintro ⟨op, operands, row, rfl, hrow, hlays⟩
    simp only [decode, hrow, parse_of_lays hlays]

/-- A row's layout, behind the row's `OPSEL`, is the command of a well-formed operation. -/
theorem encode_of_lays {op : Byte} {row : OpRow} (hrow : opRow op = some row) {bs : Bytes} {i : Instr}
    (h : Lays row bs i) : i.wf = true ∧ encode i = op :: bs := by
  have hop : op = BitVec.ofNat 8 op.toNat := by rw [BitVec.ofNat_toNat, BitVec.setWidth_eq]
  unfold opRow at hrow
  split at hrow <;> cases hrow
  all_goals rename_i hcode; rw [hcode] at hop; subst hop
  case h_1 | h_2 | h_6 | h_10 => obtain ⟨rfl, rfl⟩ := h; exact ⟨rfl, rfl⟩
  case h_3 | h_7 | h_11 | h_17 => obtain ⟨b, rfl, rfl⟩ := h; exact ⟨rfl, rfl⟩
  case h_4 | h_5 | h_8 | h_9 | h_12 | h_13 | h_14 | h_15 | h_16 | h_18 | h_19 | h_20 | h_26 | h_28 | h_31 | h_32 =>
    obtain ⟨d, hd, rfl, rfl⟩ := h; exact ⟨hd, rfl⟩
  case h_21 | h_29 => obtain ⟨t, e, he, rfl, rfl⟩ := h; exact ⟨he, rfl⟩
  case h_22 | h_23 | h_25 => obtain ⟨a, d, rfl, rfl⟩ := h; exact ⟨rfl, rfl⟩
  case h_24 => obtain ⟨c, rfl, rfl⟩ := h; exact ⟨rfl, rfl⟩
  case h_27 => obtain ⟨e, d, hfits, rfl, rfl⟩ := h; exact ⟨hfits, rfl⟩
  case h_30 => obtain ⟨port, ty, ad, pa, rfl, rfl⟩ := h; exact ⟨rfl, rfl⟩
  case h_33 => obtain ⟨port, ty, ad, pa, e, he, rfl, rfl⟩ := h; exact ⟨he, rfl⟩
  case h_34 | h_35 => obtain ⟨port, reg, v, rfl, rfl⟩ := h; exact ⟨rfl, rfl⟩

/-- The command of a well-formed operation is its row's layout behind its `OPSEL`. -/
theorem lays_of_wf {i : Instr} (h : i.wf = true) :
    ∃ op operands row, encode i = op :: operands ∧ opRow op = some row ∧ Lays row operands i := by
  cases i
  case reset | chk16Clr | crc8Clr | crc32Clr => exact ⟨_, _, _, rfl, rfl, rfl, rfl⟩
  case chk16Upd | crc8Upd | crc32Upd | sfspRxb => exact ⟨_, _, _, rfl, rfl, _, rfl, rfl⟩
  case chk16Gen | chk16Val | crc8Gen | crc8Val | crc32Gen | crc32Val | escEnc | escDec | sfspWrap | pjonBuild |
      pjonParse | pjonSend | t9Build | t9Send | pktRsp | pktU16 => exact ⟨_, _, _, rfl, rfl, _, h, rfl, rfl⟩
  case pjonRecv | t9Recv => exact ⟨_, _, _, rfl, rfl, _, _, h, rfl, rfl⟩
  case s9Psel | s9Build | s9Tx => exact ⟨_, _, _, rfl, rfl, _, _, rfl, rfl⟩
  case s9Parse => exact ⟨_, _, _, rfl, rfl, _, rfl, rfl⟩
  case t9Val => exact ⟨_, _, _, rfl, rfl, _, _, h, rfl, rfl⟩
  case pktEnc => exact ⟨_, _, _, rfl, rfl, _, _, _, _, rfl, rfl⟩
  case xchSend => exact ⟨_, _, _, rfl, rfl, _, _, _, _, _, h, rfl, rfl⟩
  case xchQuery | xchControl => exact ⟨_, _, _, rfl, rfl, _, _, _, rfl, rfl⟩

/-- Settles O3: the encoder writes the layout of a row, which the parser of that row reads back. -/
theorem decodeOfEncode : Obligations.DecodeOfEncode := by
  intro i hwf
  obtain ⟨op, operands, row, hbytes, hrow, hlays⟩ := lays_of_wf hwf
  exact (decode_eq_ok_iff _ i).2 ⟨op, operands, row, hbytes, hrow, hlays⟩

/-- Settles O4: what the parser of a row reads is laid out in the bytes, and a layout behind its `OPSEL` is the
encoding. -/
theorem encodeOfDecode : Obligations.EncodeOfDecode := by
  intro bytes i hdecode
  obtain ⟨op, operands, row, rfl, hrow, hlays⟩ := (decode_eq_ok_iff bytes i).1 hdecode
  exact encode_of_lays hrow hlays

/-- A command that decodes is taken from the pending events and run. -/
theorem step_cmd_ok {s : State} {bytes : Bytes} {rest : List Event} {i : Instr} (hev : s.events = .cmd bytes :: rest)
    (hdec : decode bytes = .ok i) : step s = exec i { s with events := rest } := by
  rw [step_event hev]
  simp only [runEvent, runCommand, hdec]

/-- The command of a well-formed operation runs that operation. -/
theorem step_cmd_encode {s : State} {rest : List Event} {i : Instr} (hwf : i.wf = true)
    (hev : s.events = .cmd (encode i) :: rest) : step s = exec i { s with events := rest } :=
  step_cmd_ok hev (decodeOfEncode i hwf)

/-- Settles O1: the decoder's result is what the command runs. -/
theorem stepRunsDecodedCommand : Obligations.StepRunsDecodedCommand :=
  fun _ _ _ _ hev hdec _ => step_cmd_ok hev hdec

/-- Settles O2: the commands are written out, so the decoder is evaluated on each. -/
theorem specCommandsDecode : Obligations.SpecCommandsDecode := by
  unfold Obligations.SpecCommandsDecode
  decide

/-! A command that does not fit its format, or has no byte (spec/60_exceptions.md R384). -/

/-- A misfit is refused with `Busy` on a busy block, but for `OPSEL` 0, and with `IllegalOperand` otherwise. -/
theorem refuseCommand_badOperands (op : Byte) (s : State) :
    refuseCommand (.badOperands op) s =
      if s.busy && op != 0 then s.refuse .busy (s.xchState.code.zeroExtend 16) else s.refuse .illegalOperand 0 := rfl

theorem refuseCommand_noOpsel (s : State) :
    refuseCommand .noOpsel s =
      if s.busy then s.refuse .busy (s.xchState.code.zeroExtend 16) else s.refuse .illegalOperand 0 := rfl

/-- Settles O6: the busy test decides which refusal a misfit or an empty command gets, and `OPSEL` 0 passes it. -/
theorem misfitCommandRefused : Obligations.MisfitCommandRefused := by
  constructor
  · intro s bytes op rest hdec hev
    rw [step_cmd_error hev hdec, refuseCommand_badOperands, State.busy_withEvents, ← State.idle_withEvents s rest]
    refine ⟨fun hidle => ?_, fun hbusy hop => ?_, fun hbusy hop => ?_⟩
    · rw [State.busy_of_idle (s := s) hidle, Bool.false_and, if_neg Bool.false_ne_true, State.refuse_of_idle hidle]
    · rw [State.busy_of_not_idle (s := s) hbusy, Bool.true_and, if_pos (by simpa using hop), State.refuse_of_busy hbusy]
      rfl
    · rw [hop, bne_self_eq_false, Bool.and_false, if_neg Bool.false_ne_true, State.refuse_of_busy hbusy]
      rfl
  · intro s rest hev
    rw [step_cmd_error hev rfl, refuseCommand_noOpsel, State.busy_withEvents, ← State.idle_withEvents s rest]
    refine ⟨fun hidle => ?_, fun hbusy => ?_⟩
    · rw [State.busy_of_idle (s := s) hidle, if_neg Bool.false_ne_true, State.refuse_of_idle hidle]
    · rw [State.busy_of_not_idle (s := s) hbusy, if_pos rfl, State.refuse_of_busy hbusy]
      rfl

end Sys2Proof.Machine

/-! What every step keeps: parameters, the range of `CHK16.ACC`, the bounds on the buffers, and one answer at most
(spec/10_state.md section 3, spec/60_exceptions.md section 1). -/

namespace Sys2Proof.Machine

/-! A running receive: what it may write, and how its buffers and its result are bounded. -/

/-- `t` is `s` but for the registers that a receive of either transport may write. -/
def ReceiveFrame (s t : State) : Prop :=
  t = { s with
    chk16Acc := t.chk16Acc, crc8Reg := t.crc8Reg, crc32Reg := t.crc32Reg
    rxbuf := t.rxbuf, rxtag := t.rxtag, rxbufValid := t.rxbufValid, rxq := t.rxq
    escState := t.escState, pjfRxstate := t.pjfRxstate, pjfTimer := t.pjfTimer, pjfTimeout := t.pjfTimeout
    pjfSender := t.pjfSender, pjfSenderValid := t.pjfSenderValid, pjfHdr := t.pjfHdr
    s9Ferr := t.s9Ferr, t9State := t.t9State, t9Timer := t.t9Timer, t9Explen := t.t9Explen, t9Ovf := t.t9Ovf
    xchLasterr := t.xchLasterr, errKind := t.errKind, errInfo := t.errInfo }

theorem ReceiveFrame.refl (s : State) : ReceiveFrame s s := rfl

theorem ReceiveFrame.trans {s t u : State} (hst : ReceiveFrame s t) (htu : ReceiveFrame t u) : ReceiveFrame s u := by
  unfold ReceiveFrame at *
  rw [htu, hst]

section
variable {s t : State}

theorem ReceiveFrame.params (h : ReceiveFrame s t) : t.params = s.params := by
  unfold ReceiveFrame at h
  rw [h]

theorem ReceiveFrame.cfg (h : ReceiveFrame s t) : t.cfg = s.cfg := by
  unfold ReceiveFrame at h
  rw [h]

theorem ReceiveFrame.txbuf (h : ReceiveFrame s t) : t.txbuf = s.txbuf := by
  unfold ReceiveFrame at h
  rw [h]

theorem ReceiveFrame.xchResp (h : ReceiveFrame s t) : t.xchResp = s.xchResp := by
  unfold ReceiveFrame at h
  rw [h]

theorem ReceiveFrame.xchState (h : ReceiveFrame s t) : t.xchState = s.xchState := by
  unfold ReceiveFrame at h
  rw [h]

theorem ReceiveFrame.xchRetries (h : ReceiveFrame s t) : t.xchRetries = s.xchRetries := by
  unfold ReceiveFrame at h
  rw [h]

theorem ReceiveFrame.xchAttempts (h : ReceiveFrame s t) : t.xchAttempts = s.xchAttempts := by
  unfold ReceiveFrame at h
  rw [h]

theorem ReceiveFrame.lineTx (h : ReceiveFrame s t) : t.lineTx = s.lineTx := by
  unfold ReceiveFrame at h
  rw [h]

theorem ReceiveFrame.rsp (h : ReceiveFrame s t) : t.rsp = s.rsp := by
  unfold ReceiveFrame at h
  rw [h]

theorem ReceiveFrame.events (h : ReceiveFrame s t) : t.events = s.events := by
  unfold ReceiveFrame at h
  rw [h]

end

/-- What a receive does to the buffers: their bounds are kept, and a result is data that fits or an error. -/
structure Receives (s : State) (v : State × Option OpResult) : Prop where
  frame : ReceiveFrame s v.1
  chk16 : s.Chk16InRange → v.1.Chk16InRange
  rxbuf : s.rxbuf.length ≤ s.params.maxbuf → v.1.rxbuf.length ≤ s.params.maxbuf
  rxtag : s.rxtag.length = s.rxbuf.length → v.1.rxtag.length = v.1.rxbuf.length
  lasterr : s.xchLasterr ≠ none → v.1.xchLasterr ≠ none
  fits : s.rxbuf.length ≤ s.params.maxbuf → ∀ p, v.2 = some (.value p) → p.length ≤ s.params.maxbuf
  sound : ∀ k info, v.2 = some (.err k info) → k ≠ .none
  notVoid : v.2 ≠ some .void

theorem State.raise_lasterr_ne_none {s : State} (h : s.xchLasterr ≠ none) (k : ErrKind) (info : BitVec 16) :
    (s.raise k info).xchLasterr ≠ none := by
  rw [State.raise_xchLasterr]
  split
  · exact Option.some_ne_none _
  · exact h


section
variable {s t : State} {v : State × Option OpResult}

/-- A part of a receive that goes on and leaves the buffers and the check register alone. -/
theorem Receives.of_untouched (hframe : ReceiveFrame s t) (hacc : t.chk16Acc = s.chk16Acc) (hrx : t.rxbuf = s.rxbuf)
    (htag : t.rxtag = s.rxtag) (hlast : s.xchLasterr ≠ none → t.xchLasterr ≠ none) : Receives s (t, none) where
  frame := hframe
  chk16 h := by rw [State.Chk16InRange, hacc]; exact h
  rxbuf h := by rw [hrx]; exact h
  rxtag h := by rw [htag, hrx]; exact h
  lasterr := hlast
  fits _ _ h := by cases h
  sound _ _ h := by cases h
  notVoid h := by cases h

theorem Receives.refl (s : State) : Receives s (s, none) := .of_untouched rfl rfl rfl rfl id

theorem Receives.trans (hst : Receives s (t, none)) (htv : Receives t v) : Receives s v where
  frame := hst.frame.trans htv.frame
  chk16 h := htv.chk16 (hst.chk16 h)
  rxbuf h := hst.frame.params ▸ htv.rxbuf (hst.frame.params.symm ▸ hst.rxbuf h)
  rxtag h := htv.rxtag (hst.rxtag h)
  lasterr h := htv.lasterr (hst.lasterr h)
  fits h := hst.frame.params ▸ htv.fits (hst.frame.params.symm ▸ hst.rxbuf h)
  sound := htv.sound
  notVoid := htv.notVoid

/-- A receive that goes on may end with any result that is no data. -/
theorem Receives.ending (h : Receives s (t, none)) {r : OpResult} (hvalue : ∀ p, r ≠ .value p)
    (herr : ∀ k info, r = .err k info → k ≠ .none) (hvoid : r ≠ .void) : Receives s (t, some r) where
  frame := h.frame
  chk16 := h.chk16
  rxbuf := h.rxbuf
  rxtag := h.rxtag
  lasterr := h.lasterr
  fits _ p hp := absurd (Option.some.inj hp) (hvalue p)
  sound k info hk := herr k info (Option.some.inj hk)
  notVoid hv := hvoid (Option.some.inj hv)

theorem Receives.ending_err (h : Receives s (t, none)) {k : ErrKind} (hk : k ≠ .none) (info : BitVec 16) :
    Receives s (t, some (.err k info)) :=
  h.ending (fun _ hp => by cases hp) (fun _ _ he => by cases he; exact hk) (fun hv => by cases hv)

theorem Receives.ending_noValue (h : Receives s (t, none)) : Receives s (t, some .noValue) :=
  h.ending (fun _ hp => by cases hp) (fun _ _ he => by cases he) (fun hv => by cases hv)

/-- A receive that goes on may end with data that fits. -/
theorem Receives.ending_value (h : Receives s (t, none)) {p : Bytes} (hp : p.length ≤ s.rxbuf.length) :
    Receives s (t, some (.value p)) where
  frame := h.frame
  chk16 := h.chk16
  rxbuf := h.rxbuf
  rxtag := h.rxtag
  lasterr := h.lasterr
  fits hb q hq := by cases hq; exact Nat.le_trans hp hb
  sound _ _ hk := by cases hk
  notVoid hv := by cases hv

theorem Receives.withRxq (h : Receives s v) (q : List RxItem) : Receives s ({ v.1 with rxq := q }, v.2) where
  frame := h.frame.trans rfl
  chk16 := h.chk16
  rxbuf := h.rxbuf
  rxtag := h.rxtag
  lasterr := h.lasterr
  fits := h.fits
  sound := h.sound
  notVoid := h.notVoid

end

theorem raise_receives (k : ErrKind) (info : BitVec 16) (s : State) : Receives s (s.raise k info, none) :=
  .of_untouched rfl rfl rfl rfl fun h => State.raise_lasterr_ne_none h k info

theorem rxbufValid_receives (s : State) : Receives s ({ s with rxbufValid := true }, none) :=
  .of_untouched rfl rfl rfl rfl id

/-! The receive of the PJON transport (R214). -/

theorem deframeByte_receives (b : Byte) (s : State) : Receives s ((deframeByte b s).1, none) := by
  obtain ⟨e, rx, tag, v, hstate, hrx, htag, -⟩ := deframeByte_frame b s
  rw [hstate]
  exact { frame := rfl, chk16 := id, rxbuf := hrx, rxtag := htag, lasterr := id, fits := fun _ _ h => (by cases h),
          sound := fun _ _ h => (by cases h), notVoid := fun h => (by cases h) }

theorem pjonParse_receives (f : Bytes) (s : State) : Receives s ((pjonParse f s).1, none) := by
  obtain ⟨hdr, c8, c32, snd, v, hstate, -⟩ := pjonParse_frame f s
  rw [hstate]
  exact .of_untouched rfl rfl rfl rfl id

/-- The result of a parse is a payload within the frame, or an error. -/
theorem pjonParse_result (f : Bytes) (s : State) :
    (∃ p : Bytes, p.length ≤ f.length ∧ (pjonParse f s).2 = .value p) ∨
      ∃ k info, k ≠ .none ∧ (pjonParse f s).2 = .err k info := by
  obtain ⟨_, _, _, _, _, -, hresult⟩ := pjonParse_frame f s
  exact hresult

theorem pjfEnd_pjonParse_receives {f : Bytes} {s : State} (hf : f.length ≤ s.rxbuf.length) :
    Receives s ((pjfEnd (pjonParse f s)).1, some (pjfEnd (pjonParse f s)).2) := by
  have hparse := pjonParse_receives f s
  have hresult := pjonParse_result f s
  generalize pjonParse f s = v at *
  obtain ⟨t, r⟩ := v
  dsimp only at *
  rcases pjfEnd_cases t r with ⟨info, rfl, he⟩ | ⟨k, info, -, rfl, he⟩ | ⟨hr, he⟩ <;> rw [he]
  · exact (hparse.trans (raise_receives _ _ t)).ending_noValue
  · refine (hparse.trans (raise_receives _ _ t)).ending_err ?_ info
    rcases hresult with ⟨p, -, hp⟩ | ⟨k', info', hk, he'⟩
    · cases hp
    · cases he'; exact hk
  · rcases hresult with ⟨p, hp, rfl⟩ | ⟨k', info', -, he'⟩
    · exact (hparse.trans (rxbufValid_receives t)).ending_value
        (Nat.le_trans hp hf)
    · exact absurd he' (hr k' info')

theorem pjfByte_receives (b : Byte) (s : State) : Receives s (pjfByte b s) := by
  have htimer : Receives s ({ s with pjfTimer := s.pjfTimeout }, none) := .of_untouched rfl rfl rfl rfl id
  have hbyte := htimer.trans (deframeByte_receives b _)
  have hoff := hbyte.trans (.of_untouched
    (t := { (deframeByte b { s with pjfTimer := s.pjfTimeout }).1 with pjfRxstate := .off }) rfl rfl rfl rfl id)
  rcases pjfByte_cases b s with ⟨-, he⟩ | ⟨info, -, he⟩ | ⟨f, hf, he⟩ <;> rw [he]
  · exact hbyte
  · exact (hoff.trans (raise_receives _ _ _)).ending_err (by decide) info
  · obtain ⟨_, _, _, _, hstate, -, -, hframe⟩ := deframeByte_frame b { s with pjfTimer := s.pjfTimeout }
    obtain ⟨rfl, hrx⟩ := hframe f hf
    refine hoff.trans (pjfEnd_pjonParse_receives ?_)
    rw [hstate, hrx]

theorem pjfDrain_receives (q kept : List RxItem) (s : State) : Receives s (pjfDrain kept q s) := by
  induction q generalizing kept s with
  | nil => exact .of_untouched rfl rfl rfl rfl id
  | cons item q ih =>
    cases item with
    | char c => exact ih _ s
    | byte b =>
      have hbyte := pjfByte_receives b s
      rw [pjfDrain_byte]
      generalize pjfByte b s = v at hbyte
      obtain ⟨t, _ | r⟩ := v
      · exact hbyte.trans (ih kept t)
      · exact hbyte.withRxq (kept ++ q)

/-- A listening deframer, as a receive starts it. -/
def State.listening (t : BitVec 32) (s : State) : State :=
  { s.clearRx with pjfRxstate := .listen, pjfTimer := t, pjfTimeout := t, escState := .hunt }

theorem pjfStart_eq_pjfDrain (t : BitVec 32) (s : State) : pjfStart t s = pjfDrain [] s.rxq (s.listening t) := rfl

theorem clear_receives {s t : State} (hframe : ReceiveFrame s t) (hacc : t.chk16Acc = s.chk16Acc) (hrx : t.rxbuf = [])
    (htag : t.rxtag = []) (hlast : s.xchLasterr ≠ none → t.xchLasterr ≠ none) : Receives s (t, none) where
  frame := hframe
  chk16 h := by rw [State.Chk16InRange, hacc]; exact h
  rxbuf _ := by rw [hrx]; exact Nat.zero_le _
  rxtag _ := by rw [htag, hrx]; rfl
  lasterr := hlast
  fits _ _ h := by cases h
  sound _ _ h := by cases h
  notVoid h := by cases h

theorem pjfStart_receives (t : BitVec 32) (s : State) : Receives s (pjfStart t s) :=
  (clear_receives (s := s) (t := s.listening t) rfl rfl rfl rfl id).trans (pjfDrain_receives s.rxq [] _)

theorem pjfTick_receives (s : State) : Receives s (pjfTick s) := by
  rcases pjfTick_cases s with ⟨-, he⟩ | ⟨-, he⟩ <;> rw [he]
  · exact .of_untouched rfl rfl rfl rfl id
  · exact (clear_receives (s := s) (t := { s with
      pjfTimer := 0, pjfRxstate := .off, escState := .hunt, rxbuf := [], rxtag := [], rxbufValid := false })
      rfl rfl rfl rfl id).ending_noValue

/-! The receive of the 9-bit transport (R276 to R282). -/

theorem t9Char_receives (c : BitVec 11) (s : State) : Receives s (t9Char c s, none) := by
  rcases t9Char_cases c s with ⟨-, he⟩ | ⟨-, hroom, he⟩ | ⟨-, -, he⟩ <;> rw [he]
  · exact .of_untouched rfl rfl rfl rfl id
  · exact { frame := rfl, chk16 := id, rxbuf := fun _ => by simpa using hroom,
            rxtag := fun h => by simp [h], lasterr := id,
            fits := fun _ _ h => (by cases h), sound := fun _ _ h => (by cases h), notVoid := fun h => (by cases h) }
  · exact .of_untouched rfl rfl rfl rfl id

theorem foldl_t9Char_receives (cs : List (BitVec 11)) (s : State) :
    Receives s (cs.foldl (fun u c => t9Char c u) s, none) := by
  induction cs generalizing s with
  | nil => exact .refl s
  | cons c cs ih => exact (t9Char_receives c s).trans (ih _)

/-- A 9-bit receive with an empty capture, before the characters that wait in `RXQ` are taken. -/
def State.waiting (t : BitVec 32) (e : Option (BitVec 16)) (s : State) : State :=
  { s.clearRx.withOvf false with
    t9State := .waitFirst, t9Timer := t, t9Explen := e, rxq := rxqWithoutChars s.rxq }

theorem t9Start_eq_foldl (t : BitVec 32) (e : Option (BitVec 16)) (s : State) :
    t9Start t e s = (rxqChars s.rxq).foldl (fun u c => t9Char c u) (s.waiting t e) := rfl

theorem t9Start_receives (t : BitVec 32) (e : Option (BitVec 16)) (s : State) : Receives s (t9Start t e s, none) :=
  (clear_receives (s := s) (t := s.waiting t e) rfl rfl rfl rfl id).trans (foldl_t9Char_receives _ _)

theorem t9Finish_receives (s : State) : Receives s ((t9Finish s).1, some (t9Finish s).2) := by
  obtain ⟨n, acc, hacc, hend⟩ := t9Finish_frame s
  have htrim : Receives s ({ s with rxbuf := s.rxbuf.take n, rxtag := s.rxtag.take n, chk16Acc := acc }, none) :=
    { frame := rfl
      chk16 := fun h => by rcases hacc with rfl | hacc <;> assumption
      rxbuf := fun h => by simp; omega
      rxtag := fun h => by simp [h]
      lasterr := id
      fits := fun _ _ h => by cases h
      sound := fun _ _ h => by cases h
      notVoid := fun h => (by cases h) }
  rcases hend with ⟨d, hd, he⟩ | ⟨k, info, hk, he⟩ <;> rw [he]
  · exact (htrim.trans (rxbufValid_receives _)).ending_value hd
  · exact (htrim.trans (raise_receives k info _)).ending_err hk info

theorem t9Tick_receives (s : State) : Receives s (t9Tick s) := by
  rcases t9Tick_cases s with ⟨-, he⟩ | ⟨-, -, he⟩ | ⟨-, -, he⟩ | ⟨-, -, he⟩ <;> rw [he]
  · exact .of_untouched rfl rfl rfl rfl id
  · exact .of_untouched rfl rfl rfl rfl id
  · exact (Receives.of_untouched (s := s) (t := { s with t9Timer := 0, t9State := .off }) rfl rfl rfl rfl
      id).ending_noValue
  · exact (Receives.of_untouched (t := { s with t9Timer := 0, t9State := .off }) rfl rfl rfl rfl id).trans
      (t9Finish_receives _)

end Sys2Proof.Machine

/-! What every step concludes with: no configuration register changes but by a power-on reset, the registers stay in
range, the buffers bounded, and at most one answer goes out (spec/10_state.md section 3, spec/60_exceptions.md R386). -/

namespace Sys2Proof.Machine

/-- A result that says whether it is an error: none carries the code of success. -/
def SoundResult (r : OpResult) : Prop := ∀ k info, r = .err k info → k ≠ .none

theorem soundResult_value (bs : Bytes) : SoundResult (.value bs) := fun _ _ h => by cases h
theorem soundResult_void : SoundResult .void := fun _ _ h => by cases h
theorem soundResult_err {k : ErrKind} (hk : k ≠ .none) (info : BitVec 16) : SoundResult (.err k info) :=
  fun _ _ h => by cases h; exact hk

/-! The two relations, of a part of an operation and of a whole one. -/

/-- A part of an operation: it keeps the configuration and the bounds, and sends no answer. -/
structure Quiet (s t : State) : Prop where
  params : t.params = s.params
  cfg : t.cfg = s.cfg
  chk16 : s.Chk16InRange → t.Chk16InRange
  buffers : 255 ≤ s.params.maxbuf → s.BuffersBounded → t.BuffersBounded
  line : ∃ evs, t.lineTx = s.lineTx ++ evs
  rsp : t.rsp = s.rsp
  events : t.events = s.events

/-- A whole operation: it keeps the configuration and the bounds, and sends one answer at most. -/
structure Concludes (s t : State) : Prop where
  params : t.params = s.params
  cfg : t.cfg = s.cfg
  chk16 : s.Chk16InRange → t.Chk16InRange
  buffers : 255 ≤ s.params.maxbuf → s.BuffersBounded → t.BuffersBounded
  line : ∃ evs, t.lineTx = s.lineTx ++ evs
  events : t.events = s.events
  sends : t.rsp = s.rsp ∨ ∃ r : OpResult, SoundResult r ∧ t.rsp = s.rsp ++ [r.rsp]

section
variable {s t u : State}

/-- Registers outside the buffers, the configuration and the traces may change freely. -/
theorem Quiet.of_chk16 (hacc : s.Chk16InRange → t.Chk16InRange) (hparams : t.params = s.params := by rfl)
    (hcfg : t.cfg = s.cfg := by rfl) (htx : t.txbuf = s.txbuf := by rfl) (hrx : t.rxbuf = s.rxbuf := by rfl)
    (htag : t.rxtag = s.rxtag := by rfl) (hresp : t.xchResp = s.xchResp := by rfl)
    (hline : t.lineTx = s.lineTx := by rfl) (hrsp : t.rsp = s.rsp := by rfl)
    (hevents : t.events = s.events := by rfl) : Quiet s t where
  params := hparams
  cfg := hcfg
  chk16 := hacc
  buffers _ h := by unfold State.BuffersBounded at *; rw [htx, hrx, htag, hresp, hparams]; exact h
  line := ⟨[], by rw [hline, List.append_nil]⟩
  rsp := hrsp
  events := hevents

/-- As `Quiet.of_chk16`, where the check register stays as well. -/
theorem Quiet.of_registers (hacc : t.chk16Acc = s.chk16Acc := by rfl) (hparams : t.params = s.params := by rfl)
    (hcfg : t.cfg = s.cfg := by rfl) (htx : t.txbuf = s.txbuf := by rfl) (hrx : t.rxbuf = s.rxbuf := by rfl)
    (htag : t.rxtag = s.rxtag := by rfl) (hresp : t.xchResp = s.xchResp := by rfl)
    (hline : t.lineTx = s.lineTx := by rfl) (hrsp : t.rsp = s.rsp := by rfl)
    (hevents : t.events = s.events := by rfl) : Quiet s t :=
  .of_chk16 (fun h => by rw [State.Chk16InRange, hacc]; exact h) hparams hcfg htx hrx htag hresp hline hrsp
    hevents

theorem Quiet.refl (s : State) : Quiet s s := .of_registers

theorem Quiet.trans (hst : Quiet s t) (htu : Quiet t u) : Quiet s u where
  params := htu.params.trans hst.params
  cfg := htu.cfg.trans hst.cfg
  chk16 h := htu.chk16 (hst.chk16 h)
  buffers hmax h := htu.buffers (hst.params ▸ hmax) (hst.buffers hmax h)
  line := by
    obtain ⟨evs, he⟩ := hst.line
    obtain ⟨evs', he'⟩ := htu.line
    exact ⟨evs ++ evs', by rw [he', he, List.append_assoc]⟩
  rsp := htu.rsp.trans hst.rsp
  events := htu.events.trans hst.events

theorem Receives.quiet {v : State × Option OpResult} (h : Receives s v) : Quiet s v.1 where
  params := h.frame.params
  cfg := h.frame.cfg
  chk16 := h.chk16
  buffers _ hs := by
    obtain ⟨htx, hrx, htag, hresp⟩ := hs
    refine ⟨?_, ?_, h.rxtag htag, ?_⟩
    · rw [h.frame.txbuf, h.frame.params]; exact htx
    · rw [h.frame.params]; exact h.rxbuf hrx
    · rw [h.frame.xchResp, h.frame.params]; exact hresp
  line := ⟨[], by rw [h.frame.lineTx, List.append_nil]⟩
  rsp := h.frame.rsp
  events := h.frame.events

theorem Quiet.concludes (h : Quiet s t) : Concludes s t :=
  { h with sends := .inl h.rsp }

/-- A part of an operation, then its answer. -/
theorem Quiet.answers (h : Quiet s t) {r : OpResult} (hr : SoundResult r) : Concludes s (t.answer r) := by
  obtain ⟨k, info, l, he⟩ := State.answer_frame r t
  rw [he]
  exact { params := h.params, cfg := h.cfg, chk16 := h.chk16, buffers := h.buffers, line := h.line,
          events := h.events, sends := .inr ⟨r, hr, by rw [h.rsp]⟩ }

theorem refuse_concludes {k : ErrKind} (hk : k ≠ .none) (info : BitVec 16) (s : State) :
    Concludes s (s.refuse k info) := by
  have hquiet : Quiet s (if s.busy then s else s.withErr k info) := by
    split
    · exact .refl s
    · exact .of_registers
  exact { params := hquiet.params, cfg := hquiet.cfg, chk16 := hquiet.chk16, buffers := hquiet.buffers,
          line := hquiet.line, events := hquiet.events,
          sends := .inr ⟨_, soundResult_err hk info, congrArg (· ++ _) hquiet.rsp⟩ }

/-! The checks in front of an operation. -/

theorem whenIdle_concludes {run : State → State} (ht : s.whenIdle run = .next t)
    (hrun : s.Idle → Concludes s (run s)) : Concludes s t := by
  rcases State.whenIdle_cases s run with ⟨-, he⟩ | ⟨hidle, he⟩ <;> rw [he] at ht <;> cases ht
  · exact refuse_concludes (by decide) _ s
  · exact hrun hidle

theorem whenLegal_concludes {legal : Bool} {run : State → State} (hrun : legal = true → Concludes s (run s)) :
    Concludes s (s.whenLegal legal run) := by
  cases legal with
  | true => exact hrun rfl
  | false => exact refuse_concludes (by decide) 0 s

end

/-! Validations, frames and symbols. -/

theorem chk16Validate_quiet (f : Bytes) (s : State) :
    Quiet s (chk16Validate f s).1 ∧ SoundResult (chk16Validate f s).2 := by
  obtain ⟨acc, hacc, hstate, hresult⟩ := chk16Validate_frame f s
  rw [hstate]
  refine ⟨.of_chk16 fun h => by rcases hacc with rfl | hacc <;> assumption, ?_⟩
  rcases hresult with ⟨d, -, he⟩ | ⟨k, info, hk, he⟩ <;> rw [he]
  · exact soundResult_value d
  · exact soundResult_err hk info

/-- A frame written to `TXBUF`, and what goes out on the line with it. -/
theorem Quiet.of_txbuf {s t : State} (hacc : s.Chk16InRange → t.Chk16InRange)
    (htx : 255 ≤ s.params.maxbuf → t.txbuf.length ≤ s.params.maxbuf) (hline : ∃ evs, t.lineTx = s.lineTx ++ evs)
    (hparams : t.params = s.params := by rfl) (hcfg : t.cfg = s.cfg := by rfl) (hrx : t.rxbuf = s.rxbuf := by rfl)
    (htag : t.rxtag = s.rxtag := by rfl) (hresp : t.xchResp = s.xchResp := by rfl)
    (hrsp : t.rsp = s.rsp := by rfl) (hevents : t.events = s.events := by rfl) : Quiet s t where
  params := hparams
  cfg := hcfg
  chk16 := hacc
  buffers hmax h := by
    unfold State.BuffersBounded at *
    rw [hrx, htag, hresp, hparams]
    exact ⟨htx hmax, h.2⟩
  line := hline
  rsp := hrsp
  events := hevents

theorem pjonBuildFrame_quiet {p : Bytes} (hp : p.length ≤ 246) (s : State) : Quiet s (pjonBuildFrame p s) := by
  rw [pjonBuildFrame_eq]
  exact .of_txbuf id (fun hmax => Nat.le_trans (pjonFrame_length_le hp _ _) hmax) ⟨[], (List.append_nil _).symm⟩

theorem pjonSendFrame_quiet {p : Bytes} (hp : p.length ≤ 246) (s : State) : Quiet s (pjonSendFrame p s) := by
  rw [pjonSendFrame_eq, pjonBuildFrame_eq]
  exact .of_txbuf id (fun hmax => Nat.le_trans (pjonFrame_length_le hp _ _) hmax) ⟨_, rfl⟩

theorem t9Frame_length (d : Bytes) : (t9Frame d).length = d.length + 2 := by
  rw [t9Frame, List.length_append]
  rfl

theorem t9BuildFrame_quiet {d : Bytes} {s : State} (hd : 255 ≤ s.params.maxbuf → d.length + 2 ≤ s.params.maxbuf) :
    Quiet s (t9BuildFrame d s) :=
  .of_txbuf (fun _ => chk16_le d) (fun hmax => t9Frame_length d ▸ hd hmax) ⟨[], (List.append_nil _).symm⟩

theorem t9SendFrame_quiet {d : Bytes} {s : State} (hd : 255 ≤ s.params.maxbuf → d.length + 2 ≤ s.params.maxbuf) :
    Quiet s (t9SendFrame d s) := by
  rw [t9SendFrame_eq]
  exact .of_txbuf (fun _ => chk16_le d) (fun hmax => t9Frame_length d ▸ hd hmax) ⟨_, rfl⟩

theorem s9Transmit_quiet (a : Bool) (d : Byte) (s : State) : Quiet s (s9Transmit a d s) := by
  rw [s9Transmit_eq]
  exact { params := rfl, cfg := rfl, chk16 := id, buffers := fun _ h => h, line := ⟨_, rfl⟩, rsp := rfl, events := rfl }

/-! The exchange (R322 to R332). -/

/-- A receive, or an attempt with its receive, seen from the state `s` in which its operation began. -/
structure Pending (s : State) (v : State × Option OpResult) : Prop where
  quiet : Quiet s v.1
  fits : 255 ≤ s.params.maxbuf → s.BuffersBounded → ∀ p, v.2 = some (.value p) → p.length ≤ s.params.maxbuf
  sound : ∀ r, v.2 = some r → SoundResult r
  notVoid : v.2 ≠ some .void

theorem Receives.pending {s : State} {v : State × Option OpResult} (h : Receives s v) : Pending s v where
  quiet := h.quiet
  fits _ hs := h.fits hs.2.1
  sound _ hr k info hk := h.sound k info (hr.trans (congrArg some hk))
  notVoid := h.notVoid

theorem Pending.of_quiet {s t : State} {v : State × Option OpResult} (hst : Quiet s t) (h : Pending t v) :
    Pending s v where
  quiet := hst.trans h.quiet
  fits hmax hs := hst.params ▸ h.fits (hst.params.symm ▸ hmax) (hst.buffers hmax hs)
  sound := h.sound
  notVoid := h.notVoid

@[simp] theorem bytes48_length (v : BitVec 48) : (bytes48 v).length = 6 := rfl

theorem xchTransmit_quiet (s : State) : Quiet s (xchTransmit s) := by
  unfold xchTransmit
  split
  · exact t9SendFrame_quiet fun hmax => by rw [bytes48_length]; omega
  · exact pjonSendFrame_quiet (by rw [bytes48_length]; decide) s

theorem xchListen_pending (s : State) : Pending s (xchListen s) := by
  unfold xchListen
  split
  · exact (t9Start_receives _ _ s).pending
  · exact (pjfStart_receives _ s).pending

theorem xchAttempt_pending (s : State) : Pending s (xchAttempt s) := by
  have hcount : Quiet s { s with xchAttempts := s.xchAttempts + 1 } := .of_registers
  have hawait := (hcount.trans (xchTransmit_quiet _)).trans (.of_registers (t := { xchTransmit
    { s with xchAttempts := s.xchAttempts + 1 } with xchState := .awaitingResponse }))
  exact .of_quiet hawait (xchListen_pending _)

/-- A response is refused with an error, or stripped of its status byte. -/
theorem pktResponse_cases (r : Bytes) :
    (∃ k info, (k = .frameTooShort ∨ k = .invalidCommandAck) ∧ pktResponse r = .err k info) ∨
      ∃ p : Bytes, p.length ≤ r.length ∧ pktResponse r = .value p := by
  unfold pktResponse
  split
  · exact .inl ⟨_, _, .inl rfl, rfl⟩
  · split
    · exact .inl ⟨_, _, .inr rfl, rfl⟩
    · exact .inr ⟨_, by simp, rfl⟩

theorem xchPayloadResult_sound (op : XchOp) (p : Bytes) : SoundResult (xchPayloadResult op p) := by
  cases op with
  | send => exact soundResult_value p
  | query =>
    rw [xchPayloadResult, pktValue]
    split
    · exact soundResult_value _
    · exact soundResult_err (by decide) _
  | control => exact soundResult_void

section
variable {s t : State}

theorem xchFail_concludes (hst : Quiet s t) {k : ErrKind} (hk : k ≠ .none) (info : BitVec 16) :
    Concludes s (xchFail k info t) :=
  (hst.trans (.of_registers (t := { t with xchLasterr := some (k, info), xchState := .failed }))).answers
    (soundResult_err hk info)

theorem xchValidate_concludes (hst : Quiet s t) {r : Bytes}
    (hr : 255 ≤ s.params.maxbuf → s.BuffersBounded → r.length ≤ s.params.maxbuf) : Concludes s (xchValidate r t) := by
  unfold xchValidate
  rcases pktResponse_cases r with ⟨k, info, hk, he⟩ | ⟨p, hp, he⟩ <;> rw [he]
  · exact xchFail_concludes (hst.trans .of_registers) (by rcases hk with rfl | rfl <;> decide) info
  · have hdone : Quiet s { t with xchResp := p, xchState := .done } :=
      { hst with
        buffers := fun hmax hs => by
          obtain ⟨htx, hrx, htag, -⟩ := hst.buffers hmax hs
          exact ⟨htx, hrx, htag, hst.params.symm ▸ Nat.le_trans hp (hr hmax hs)⟩ }
    exact hdone.answers (xchPayloadResult_sound _ p)

/-- The next attempt, after a failure that is retried. -/
theorem xchRetry_pending (hst : Quiet s t) (k : ErrKind) (info : BitVec 16) :
    Pending s (xchAttempt (xchRetry k info t)) :=
  .of_quiet (hst.trans (.of_registers (t := xchRetry k info t))) (xchAttempt_pending _)

/-- However often it tries again, an exchange settles with one answer or goes on without one. -/
theorem xchSettle_concludes (n : Nat) {r : OpResult} (h : Pending s (t, some r)) :
    Concludes s (xchSettle n r t) := by
  induction n generalizing r t with
  | zero =>
    cases r with
    | value p => exact xchValidate_concludes h.quiet fun hmax hs => h.fits hmax hs p rfl
    | noValue => exact xchFail_concludes h.quiet (by decide) 0
    | void => exact h.quiet.concludes
    | err k info => exact xchFail_concludes h.quiet (h.sound _ rfl k info rfl) info
  | succ n ih =>
    have next : ∀ v, Pending s v →
        Concludes s (match v.2 with | none => v.1 | some r => xchSettle n r v.1) := by
      rintro ⟨u, _ | r⟩ hv
      · exact hv.quiet.concludes
      · exact ih hv
    cases r with
    | value p => exact xchValidate_concludes h.quiet fun hmax hs => h.fits hmax hs p rfl
    | noValue =>
      rw [xchSettle_succ_noValue]
      exact next _ (xchRetry_pending h.quiet _ _)
    | void => exact h.quiet.concludes
    | err k info =>
      by_cases hk : k.retryable = true
      · rw [xchSettle_succ_err hk]
        exact next _ (xchRetry_pending h.quiet _ _)
      · rw [xchSettle_fatal (Bool.not_eq_true _ ▸ hk)]
        exact xchFail_concludes h.quiet (h.sound _ rfl k info rfl) info

theorem receiveEnded_concludes {v : State × Option OpResult} (h : Pending s v) : Concludes s (receiveEnded v) := by
  obtain ⟨t, _ | r⟩ := v
  · exact h.quiet.concludes
  · by_cases hx : t.xchState = .awaitingResponse
    · rw [receiveEnded_exchange hx]
      exact xchSettle_concludes _ h
    · rw [receiveEnded_standalone hx]
      exact h.quiet.answers (h.sound r rfl)

theorem xchStart_concludes (op : XchOp) (body : BitVec 48) (e : Option (BitVec 16)) (s : State) :
    Concludes s (xchStart op body e s) := by
  have hbegin : Quiet s (xchBegin op body e s) :=
    { params := rfl, cfg := rfl, chk16 := id, line := ⟨[], (List.append_nil _).symm⟩, rsp := rfl, events := rfl
      buffers := fun _ hs => ⟨hs.1, hs.2.1, hs.2.2.1, Nat.zero_le _⟩ }
  exact receiveEnded_concludes (.of_quiet hbegin (xchAttempt_pending _))

end

/-! The operations and the other events. -/

theorem exec_reset (s : State) : exec .reset s = .next ((s.resetWith s.params).answered voidRsp) := by
  rw [show exec .reset s = execReset s from rfl, execReset, State.answer_void]

/-- Every operation but `RESET`, operation by operation. -/
theorem exec_concludes {i : Instr} (hreset : i ≠ .reset) {s t : State} (ht : exec i s = .next t) : Concludes s t := by
  unfold exec at ht
  cases i with
  | reset => exact absurd rfl hreset
  | chk16Clr =>
    exact whenIdle_concludes ht fun _ => (Quiet.of_chk16 fun _ => Nat.zero_le _).answers soundResult_void
  | chk16Upd b =>
    exact whenIdle_concludes ht fun _ => (Quiet.of_chk16 fun h => chk16Upd_le h b).answers (soundResult_value _)
  | chk16Gen d =>
    exact whenIdle_concludes ht fun _ => whenLegal_concludes fun _ =>
      (Quiet.of_chk16 fun _ => chk16_le d).answers (soundResult_value _)
  | chk16Val f =>
    exact whenIdle_concludes ht fun _ => (chk16Validate_quiet f s).1.answers (chk16Validate_quiet f s).2
  | t9Val e f =>
    exact whenIdle_concludes ht fun _ => (chk16Validate_quiet _ s).1.answers (chk16Validate_quiet _ s).2
  | crc8Clr | crc32Clr => exact whenIdle_concludes ht fun _ => Quiet.answers .of_registers soundResult_void
  | crc8Upd b | crc32Upd b =>
    exact whenIdle_concludes ht fun _ => Quiet.answers .of_registers (soundResult_value _)
  | crc8Gen m | crc32Gen m =>
    exact whenIdle_concludes ht fun _ => whenLegal_concludes fun _ =>
      Quiet.answers .of_registers (soundResult_value _)
  | crc8Val f | crc32Val f =>
    refine whenIdle_concludes ht fun _ => ?_
    dsimp only
    split
    · exact (Quiet.refl s).answers (soundResult_err (by decide) _)
    · exact Quiet.answers .of_registers (soundResult_value _)
  | escEnc f | sfspWrap f =>
    exact whenIdle_concludes ht fun _ => whenLegal_concludes fun _ => (Quiet.refl s).answers (soundResult_value _)
  | escDec e =>
    refine whenIdle_concludes ht fun _ => ?_
    split
    · exact (Quiet.refl s).answers (soundResult_value _)
    · exact (Quiet.refl s).answers (soundResult_err (by decide) _)
  | sfspRxb b =>
    refine whenIdle_concludes ht fun _ => (deframeByte_receives b s).quiet.answers ?_
    cases (deframeByte b s).2 with
    | nothing => exact soundResult_void
    | frame f => exact soundResult_value f
    | malformed info => exact soundResult_err (by decide) info
  | pjonBuild p =>
    exact whenIdle_concludes ht fun _ => whenLegal_concludes fun hp =>
      (pjonBuildFrame_quiet ((pjonPayloadLegal_iff p).1 hp) s).answers (soundResult_value _)
  | pjonSend p =>
    exact whenIdle_concludes ht fun _ => whenLegal_concludes fun hp =>
      (pjonSendFrame_quiet ((pjonPayloadLegal_iff p).1 hp) s).answers soundResult_void
  | pjonParse f =>
    refine whenIdle_concludes ht fun _ => (pjonParse_receives f s).quiet.answers ?_
    rcases pjonParse_result f s with ⟨p, -, he⟩ | ⟨k, info, hk, he⟩ <;> rw [he]
    · exact soundResult_value p
    · exact soundResult_err hk info
  | pjonRecv t e =>
    refine whenIdle_concludes ht fun _ => whenLegal_concludes fun _ => ?_
    have hstart := (pjfStart_receives t s).pending
    generalize pjfStart t s = v at hstart
    obtain ⟨u, _ | r⟩ := v
    · exact hstart.quiet.concludes
    · exact hstart.quiet.answers (hstart.sound r rfl)
  | s9Psel a d | s9Build a d => exact whenIdle_concludes ht fun _ => (Quiet.refl s).answers (soundResult_value _)
  | s9Parse c =>
    refine whenIdle_concludes ht fun _ => ?_
    split
    · exact (Quiet.refl s).answers (soundResult_value _)
    · exact Quiet.answers .of_registers (soundResult_err (k := .malformedFrame) (by decide) _)
  | s9Tx a d => exact whenIdle_concludes ht fun _ => (s9Transmit_quiet a d s).answers soundResult_void
  | t9Build d =>
    exact whenIdle_concludes ht fun _ => whenLegal_concludes fun hd =>
      (t9BuildFrame_quiet fun _ => ((State.t9DataLegal_iff d s).1 hd).2).answers (soundResult_value _)
  | t9Send d =>
    exact whenIdle_concludes ht fun _ => whenLegal_concludes fun hd =>
      (t9SendFrame_quiet fun _ => ((State.t9DataLegal_iff d s).1 hd).2).answers soundResult_void
  | t9Recv t e =>
    exact whenIdle_concludes ht fun _ => whenLegal_concludes fun _ => (t9Start_receives t e s).quiet.concludes
  | pktEnc port ty ad pa =>
    exact whenIdle_concludes ht fun _ => whenLegal_concludes fun _ => (Quiet.refl s).answers (soundResult_value _)
  | pktRsp r =>
    refine whenIdle_concludes ht fun _ => (Quiet.refl s).answers ?_
    rcases pktResponse_cases r with ⟨k, info, hk, he⟩ | ⟨p, -, he⟩ <;> rw [he]
    · exact soundResult_err (by rcases hk with rfl | rfl <;> decide) info
    · exact soundResult_value p
  | pktU16 p => exact whenIdle_concludes ht fun _ => (Quiet.refl s).answers (xchPayloadResult_sound .query p)
  | xchSend port ty ad pa e =>
    exact whenIdle_concludes ht fun _ => whenLegal_concludes fun _ => xchStart_concludes _ _ _ s
  | xchQuery port reg v | xchControl port reg v =>
    exact whenIdle_concludes ht fun _ => whenLegal_concludes fun _ => xchStart_concludes _ _ _ s

theorem refuseCommand_concludes (e : DecodeError) (s : State) : Concludes s (refuseCommand e s) := by
  cases e with
  | reservedOpsel op => exact refuse_concludes (by decide) _ s
  | badOperands op =>
    rw [refuseCommand_badOperands]
    split <;> exact refuse_concludes (by decide) _ s
  | noOpsel =>
    rw [refuseCommand_noOpsel]
    split <;> exact refuse_concludes (by decide) _ s

theorem onTick_concludes (s : State) : Concludes s (onTick s) := by
  unfold onTick
  split
  · exact receiveEnded_concludes (t9Tick_receives s).pending
  · split
    · exact receiveEnded_concludes (pjfTick_receives s).pending
    · exact (Quiet.refl s).concludes

theorem onRxChar_concludes (c : BitVec 11) (s : State) : Concludes s (onRxChar c s) := by
  unfold onRxChar
  split
  · exact (t9Char_receives c s).quiet.concludes
  · exact Quiet.concludes .of_registers

theorem onRxByte_concludes (b : Byte) (s : State) : Concludes s (onRxByte b s) := by
  unfold onRxByte
  split
  · exact receiveEnded_concludes (pjfByte_receives b s).pending
  · exact Quiet.concludes .of_registers

/-! One step. -/

/-- A command either runs the operation it decodes to, or is refused. -/
theorem runCommand_cases {bytes : Bytes} {s t : State} (h : runCommand bytes s = .next t) :
    (∃ i, decode bytes = .ok i ∧ exec i s = .next t) ∨ ∃ e, t = refuseCommand e s := by
  unfold runCommand at h
  split at h
  · next i hi => exact .inl ⟨i, hi, h⟩
  · next e _ => cases h; exact .inr ⟨e, rfl⟩

/-- Everything a step can be: nothing, a reset, or an event processed to its conclusion. -/
theorem step_cases {s t : State} (h : step s = .next t) :
    (s.events = [] ∧ t = s) ∨
      (∃ p rest, s.events = .powerOn p :: rest ∧ p.legal = true ∧ t = ({ s with events := rest } : State).resetWith p) ∨
      t = (({ s with events := s.events.tail } : State).resetWith s.params).answered voidRsp ∨
      Concludes { s with events := s.events.tail } t := by
  unfold step at h
  split at h
  · next hev => cases h; exact .inl ⟨hev, rfl⟩
  · next e rest hev =>
    rw [hev]
    cases e with
    | cmd bytes =>
      rcases runCommand_cases h with ⟨i, -, hexec⟩ | ⟨e, rfl⟩
      · by_cases hreset : i = .reset
        · subst hreset
          rw [exec_reset] at hexec
          cases hexec
          exact .inr (.inr (.inl rfl))
        · exact .inr (.inr (.inr (exec_concludes hreset hexec)))
      · exact .inr (.inr (.inr (refuseCommand_concludes e _)))
    | tick => cases h; exact .inr (.inr (.inr (onTick_concludes _)))
    | rxChar c => cases h; exact .inr (.inr (.inr (onRxChar_concludes c _)))
    | rxByte b => cases h; exact .inr (.inr (.inr (onRxByte_concludes b _)))
    | powerOn p =>
      rw [show runEvent (.powerOn p) _ = powerOn p _ from rfl, powerOn] at h
      split at h
      · next hlegal => cases h; exact .inr (.inl ⟨p, rest, rfl, hlegal, rfl⟩)
      · cases h

/-- Settles O13: no operation and no line event writes a configuration register, and a reset loads them again. -/
theorem stepKeepsConfiguration : Obligations.StepKeepsConfiguration := by
  intro s t hloaded hstep
  obtain ⟨hlegal, hcfg⟩ := hloaded
  rcases step_cases hstep with ⟨-, rfl⟩ | ⟨p, rest, hev, hp, rfl⟩ | rfl | h
  · exact ⟨⟨hlegal, hcfg⟩, fun _ => ⟨rfl, rfl⟩⟩
  · exact ⟨⟨hp, rfl⟩, fun hno => absurd hev (hno p rest)⟩
  · exact ⟨⟨hlegal, rfl⟩, fun _ => ⟨rfl, hcfg.symm⟩⟩
  · exact ⟨⟨h.params ▸ hlegal, h.cfg.trans (hcfg.trans (congrArg Cfg.load h.params.symm))⟩,
      fun _ => ⟨h.params, h.cfg⟩⟩

/-- Settles O14: every operation writes a check value, and an update keeps the range. -/
theorem stepKeepsChk16InRange : Obligations.StepKeepsChk16InRange := by
  intro s t hrange hstep
  rcases step_cases hstep with ⟨-, rfl⟩ | ⟨p, rest, -, -, rfl⟩ | rfl | h
  · exact hrange
  · exact Nat.zero_le _
  · exact Nat.zero_le _
  · exact h.chk16 hrange

/-- Settles O15: every operation keeps the bounds on the buffers, and a reset empties them. -/
theorem stepKeepsBuffersBounded : Obligations.StepKeepsBuffersBounded := by
  intro s t hloaded hbounded hstep
  have hmax := ((Params.legal_iff s.params).1 hloaded.1).2.2
  rcases step_cases hstep with ⟨-, rfl⟩ | ⟨p, rest, -, -, rfl⟩ | rfl | h
  · exact hbounded
  · exact ⟨Nat.zero_le _, Nat.zero_le _, rfl, Nat.zero_le _⟩
  · exact ⟨Nat.zero_le _, Nat.zero_le _, rfl, Nat.zero_le _⟩
  · exact h.buffers hmax hbounded

/-- The answers of R107, result by result. -/
theorem SoundResult.rsp_cases {r : OpResult} (h : SoundResult r) :
    (∃ bs, r.rsp = valueRsp bs) ∨ r.rsp = voidRsp ∨ r.rsp = noneRsp ∨
      ∃ code info, code ≠ 0 ∧ r.rsp = errorRsp code info := by
  cases r with
  | value bs => exact .inl ⟨bs, OpResult.rsp_value bs⟩
  | void => exact .inr (.inl OpResult.rsp_void)
  | noValue => exact .inr (.inr (.inl OpResult.rsp_noValue))
  | err k info =>
    have hcode : k.code.zeroExtend 8 ≠ 0 := by
      have hk := h k info rfl
      cases k with
      | none => exact absurd rfl hk
      | _ => decide
    exact .inr (.inr (.inr ⟨_, info, hcode, OpResult.rsp_err k info⟩))

/-- Settles O17: an operation sends one sound result at most, and a reset command the result-less success. -/
theorem errorAnswersCarryNoData : Obligations.ErrorAnswersCarryNoData := by
  intro s t hstep
  rcases step_cases hstep with ⟨-, rfl⟩ | ⟨p, rest, -, -, rfl⟩ | rfl | h
  · exact ⟨⟨[], (List.append_nil _).symm⟩, .inl rfl⟩
  · exact ⟨⟨[], (List.append_nil _).symm⟩, .inl rfl⟩
  · exact ⟨⟨[], (List.append_nil _).symm⟩, .inr ⟨voidRsp, rfl, .inr (.inl rfl)⟩⟩
  · refine ⟨h.line, ?_⟩
    rcases h.sends with hsilent | ⟨r, hsound, hsent⟩
    · exact .inl hsilent
    · exact .inr ⟨r.rsp, hsent, hsound.rsp_cases⟩

end Sys2Proof.Machine

/-! What an operation is on an idle block: a short one, which ends in its command, a parse, or the start of a receive or
of an exchange (spec/60_exceptions.md R395). -/

namespace Sys2Proof.Machine

/-- `t` is `s` but for the registers that an operation other than `PJON.PARSE` may write in its own command, and no such
operation makes `RXBUF` a frame that may be read. -/
structure Short (s t : State) : Prop where
  frame : t = { s with
    chk16Acc := t.chk16Acc, crc8Reg := t.crc8Reg, crc32Reg := t.crc32Reg, txbuf := t.txbuf
    rxbuf := t.rxbuf, rxtag := t.rxtag, rxbufValid := t.rxbufValid, escState := t.escState
    s9Pmode := t.s9Pmode, s9Ferr := t.s9Ferr, errKind := t.errKind, errInfo := t.errInfo
    rsp := t.rsp, lineTx := t.lineTx }
  valid : t.rxbufValid = true → s.rxbufValid = true

section
variable {s t : State}

theorem Short.trans {u : State} (hst : Short s t) (htu : Short t u) : Short s u where
  frame := by rw [htu.frame, hst.frame]
  valid h := hst.valid (htu.valid h)

/-- Registers that an operation may write, where the validity bit stays. -/
theorem Short.of_registers
    (hframe : t = { s with
      chk16Acc := t.chk16Acc, crc8Reg := t.crc8Reg, crc32Reg := t.crc32Reg, txbuf := t.txbuf
      rxbuf := t.rxbuf, rxtag := t.rxtag, rxbufValid := t.rxbufValid, escState := t.escState
      s9Pmode := t.s9Pmode, s9Ferr := t.s9Ferr, errKind := t.errKind, errInfo := t.errInfo
      rsp := t.rsp, lineTx := t.lineTx } := by rfl)
    (hvalid : t.rxbufValid = s.rxbufValid := by rfl) : Short s t := ⟨hframe, fun h => hvalid ▸ h⟩

theorem Short.idle (h : Short s t) (hidle : s.Idle) : t.Idle := by
  rw [h.frame]
  exact hidle

/-- Outside an exchange an answer writes the error registers and `rsp` only. -/
theorem answer_short (hidle : s.Idle) (r : OpResult) : Short s (s.answer r) := by
  cases r with
  | err k info => rw [State.answer_err (State.inExchange_of_idle hidle)]; exact .of_registers
  | _ => exact .of_registers

theorem Short.answer (h : Short s t) (hidle : s.Idle) (r : OpResult) : Short s (t.answer r) :=
  h.trans (answer_short (h.idle hidle) r)

theorem refuse_short (hidle : s.Idle) (k : ErrKind) (info : BitVec 16) : Short s (s.refuse k info) := by
  rw [State.refuse_of_idle hidle]
  exact .of_registers

theorem whenLegal_short (hidle : s.Idle) {legal : Bool} {run : State → State}
    (hrun : legal = true → Short s (run s)) : Short s (s.whenLegal legal run) := by
  cases legal with
  | true => exact hrun rfl
  | false => exact refuse_short hidle _ _

end

/-! The parts of the short operations. -/

theorem chk16Validate_short (f : Bytes) (s : State) : Short s (chk16Validate f s).1 := by
  obtain ⟨acc, -, hstate, -⟩ := chk16Validate_frame f s
  rw [hstate]
  exact .of_registers

/-- No deframer step makes `RXBUF` a frame that may be read. -/
theorem deframeByte_valid (b : Byte) (s : State) : (deframeByte b s).1.rxbufValid = true → s.rxbufValid = true := by
  have store : ∀ d, (deframeStore d s).1.rxbufValid = true → s.rxbufValid = true := by
    intro d
    rcases deframeStore_cases d s with ⟨-, he⟩ | ⟨-, he⟩ <;> rw [he] <;> exact fun h => by cases h
  rcases deframeByte_cases b s with ⟨-, he⟩ | ⟨-, -, he⟩ | ⟨-, -, he⟩ | ⟨-, -, he⟩ | ⟨-, -, -, -, he⟩ | ⟨-, -, he⟩ |
    ⟨-, -, -, he⟩ <;> rw [he]
  · exact fun h => by cases h
  · exact id
  · exact id
  · exact id
  · exact store b
  · exact fun h => by cases h
  · exact store _

theorem deframeByte_short (b : Byte) (s : State) : Short s (deframeByte b s).1 := by
  refine ⟨?_, deframeByte_valid b s⟩
  obtain ⟨e, rx, tag, v, hstate, -⟩ := deframeByte_frame b s
  rw [hstate]

theorem pjonBuildFrame_short (p : Bytes) (s : State) : Short s (pjonBuildFrame p s) := by
  rw [pjonBuildFrame_eq]
  exact .of_registers

theorem pjonSendFrame_short (p : Bytes) (s : State) : Short s (pjonSendFrame p s) := by
  rw [pjonSendFrame_eq, pjonBuildFrame_eq]
  exact .of_registers

theorem t9SendFrame_short (d : Bytes) (s : State) : Short s (t9SendFrame d s) := by
  rw [t9SendFrame_eq]
  exact .of_registers

/-! `PJON.PARSE`, and the long operations with legal operands. -/

theorem exec_pjonParse_of_idle {s : State} (hidle : s.Idle) (f : Bytes) :
    exec (.pjonParse f) s = .next ((pjonParse f s).1.answer (pjonParse f s).2) := by
  rw [show exec (.pjonParse f) s = execPjonParse f s from rfl, execPjonParse, State.whenIdle_of_idle hidle]

theorem exec_t9Recv (t : BitVec 32) (e : Option (BitVec 16)) (s : State) :
    exec (.t9Recv t e) s = execT9Recv t e s := rfl
theorem exec_pjonRecv (t : BitVec 32) (e : Option (BitVec 16)) (s : State) :
    exec (.pjonRecv t e) s = execPjonRecv t e s := rfl

/-- Outside an exchange the end of a receive is its answer. -/
theorem receiveEnded_of_not_awaiting {v : State × Option OpResult} (h : v.1.xchState ≠ .awaitingResponse) :
    receiveEnded v = match v.2 with
      | none => v.1
      | some r => v.1.answer r := by
  obtain ⟨u, _ | r⟩ := v
  · rfl
  · exact receiveEnded_standalone h r

theorem State.not_awaiting_of_idle {s : State} (h : s.Idle) : s.xchState ≠ .awaitingResponse := by
  rcases h.1 with hx | hx | hx <;> rw [hx] <;> decide

/-- A receive of the PJON transport whose start may end it: `PJON.RECV` answers as the end of any receive does. -/
theorem receiveEnded_pjfStart_of_idle {s : State} (hidle : s.Idle) (t : BitVec 32) :
    receiveEnded (pjfStart t s) = match pjfStart t s with
      | (s, none) => s
      | (s, some r) => s.answer r := by
  have hx : (pjfStart t s).1.xchState ≠ .awaitingResponse := by
    rw [(pjfStart_receives t s).frame.xchState]
    exact State.not_awaiting_of_idle hidle
  rw [receiveEnded_of_not_awaiting hx]
  rcases pjfStart t s with ⟨u, _ | r⟩ <;> rfl

section
variable {s : State}

theorem exec_t9Recv_of_legal (hidle : s.Idle) {t : BitVec 32} (ht : t ≠ 0) (e : Option (BitVec 16)) :
    exec (.t9Recv t e) s = .next (t9Start t e s) := by
  rw [exec_t9Recv, execT9Recv, State.whenIdle_of_idle hidle, (timeoutLegal_iff t).2 ht, State.whenLegal_true]

theorem exec_pjonRecv_of_legal (hidle : s.Idle) {t : BitVec 32} (ht : t ≠ 0) (e : Option (BitVec 16)) :
    exec (.pjonRecv t e) s = .next (receiveEnded (pjfStart t s)) := by
  rw [exec_pjonRecv, execPjonRecv, State.whenIdle_of_idle hidle, (timeoutLegal_iff t).2 ht, State.whenLegal_true]
  exact congrArg Host.Outcome.next (receiveEnded_pjfStart_of_idle hidle t).symm

theorem exec_exchangeCommand_of_legal (hidle : s.Idle) {port ty : Byte} (hport : port.toNat ≤ 9)
    (hty : ty.toNat ∈ [2, 3, 4, 22]) (op : XchOp) (ad pa : BitVec 16) (e : Option (BitVec 16)) :
    exec (exchangeCommand op port ty ad pa e) s =
      .next (xchStart op (body48 port (exchangeType op ty) ad pa) (exchangeExpected op e) s) := by
  cases op with
  | send =>
    rw [show exec (exchangeCommand .send port ty ad pa e) s = execXchSend port ty ad pa e s from rfl, execXchSend,
      State.whenIdle_of_idle hidle, State.whenLegal_packet_of_legal hport hty]
    rfl
  | query =>
    rw [show exec (exchangeCommand .query port ty ad pa e) s = execXchQuery port ad pa s from rfl, execXchQuery,
      State.whenIdle_of_idle hidle, State.whenLegal_packet_of_legal hport (by decide)]
    rfl
  | control =>
    rw [show exec (exchangeCommand .control port ty ad pa e) s = execXchControl port ad pa s from rfl, execXchControl,
      State.whenIdle_of_idle hidle, State.whenLegal_packet_of_legal hport (by decide)]
    rfl

end

/-! The classification. -/

/-- Everything an operation can be on an idle block. -/
inductive IdleRun (s : State) : Instr → State → Prop
  | reset : IdleRun s .reset ((s.resetWith s.params).answered voidRsp)
  | short {i : Instr} {t : State} : Short s t → IdleRun s i t
  | parse (f : Bytes) : IdleRun s (.pjonParse f) ((pjonParse f s).1.answer (pjonParse f s).2)
  | t9Recv {t : BitVec 32} (e : Option (BitVec 16)) : t ≠ 0 → IdleRun s (.t9Recv t e) (t9Start t e s)
  | pjonRecv {t : BitVec 32} (e : Option (BitVec 16)) : t ≠ 0 →
    IdleRun s (.pjonRecv t e) (receiveEnded (pjfStart t s))
  | exchange (op : XchOp) (port ty : Byte) (ad pa : BitVec 16) (e : Option (BitVec 16)) :
    IdleRun s (exchangeCommand op port ty ad pa e)
      (xchStart op (body48 port (exchangeType op ty) ad pa) (exchangeExpected op e) s)

section
variable {s t : State}

theorem idleRun_short {run : State → State} {i : Instr} (hidle : s.Idle) (ht : s.whenIdle run = .next t)
    (h : Short s (run s)) : IdleRun s i t := by
  rw [State.whenIdle_of_idle hidle] at ht
  cases ht
  exact .short h

/-- A legal packet starts the exchange, an illegal one is refused. -/
theorem idleRun_exchange (hidle : s.Idle) (op : XchOp) (port ty : Byte) (ad pa : BitVec 16) (e : Option (BitVec 16))
    (ht : s.whenIdle (fun s => s.whenLegal (packetLegal port (exchangeType op ty)) fun s =>
        xchStart op (body48 port (exchangeType op ty) ad pa) (exchangeExpected op e) s) = .next t) :
    IdleRun s (exchangeCommand op port ty ad pa e) t := by
  rw [State.whenIdle_of_idle hidle] at ht
  cases hlegal : packetLegal port (exchangeType op ty) <;> rw [hlegal] at ht <;> cases ht
  · exact .short (refuse_short hidle _ _)
  · exact .exchange op port ty ad pa e

/-- Operation by operation. -/
theorem exec_idleRun (hidle : s.Idle) {i : Instr} (ht : exec i s = .next t) : IdleRun s i t := by
  have hexec := ht
  unfold exec at ht
  cases i with
  | reset => rw [exec_reset] at hexec; cases hexec; exact .reset
  | pjonParse f => rw [exec_pjonParse_of_idle hidle] at hexec; cases hexec; exact .parse f
  | t9Recv tm e =>
    by_cases htm : tm = 0
    · subst htm
      exact idleRun_short hidle ht (whenLegal_short hidle fun h => absurd h (by decide))
    · rw [exec_t9Recv_of_legal hidle htm] at hexec
      cases hexec
      exact .t9Recv e htm
  | pjonRecv tm e =>
    by_cases htm : tm = 0
    · subst htm
      exact idleRun_short hidle ht (whenLegal_short hidle fun h => absurd h (by decide))
    · rw [exec_pjonRecv_of_legal hidle htm] at hexec
      cases hexec
      exact .pjonRecv e htm
  | xchSend port ty ad pa e => exact idleRun_exchange hidle .send port ty ad pa e ht
  | xchQuery port reg v => exact idleRun_exchange hidle .query port 0 reg v none ht
  | xchControl port reg v => exact idleRun_exchange hidle .control port 0 reg v none ht
  | chk16Clr | chk16Upd b | crc8Clr | crc8Upd b | crc32Clr | crc32Upd b =>
    exact idleRun_short hidle ht (Short.answer .of_registers hidle _)
  | chk16Gen d | crc8Gen d | crc32Gen d =>
    exact idleRun_short hidle ht (whenLegal_short hidle fun _ => Short.answer .of_registers hidle _)
  | chk16Val f => exact idleRun_short hidle ht ((chk16Validate_short f s).answer hidle _)
  | t9Val e f => exact idleRun_short hidle ht ((chk16Validate_short _ s).answer hidle _)
  | crc8Val f | crc32Val f =>
    refine idleRun_short hidle ht ?_
    dsimp only
    split
    · exact answer_short hidle _
    · exact Short.answer .of_registers hidle _
  | escEnc f | sfspWrap f | pktEnc port ty ad pa =>
    exact idleRun_short hidle ht (whenLegal_short hidle fun _ => answer_short hidle _)
  | escDec e =>
    refine idleRun_short hidle ht ?_
    split <;> exact answer_short hidle _
  | sfspRxb b => exact idleRun_short hidle ht ((deframeByte_short b s).answer hidle _)
  | pjonBuild p =>
    exact idleRun_short hidle ht (whenLegal_short hidle fun _ => (pjonBuildFrame_short p s).answer hidle _)
  | pjonSend p =>
    exact idleRun_short hidle ht (whenLegal_short hidle fun _ => (pjonSendFrame_short p s).answer hidle _)
  | s9Psel a d | s9Build a d | pktRsp r | pktU16 p => exact idleRun_short hidle ht (answer_short hidle _)
  | s9Parse c =>
    refine idleRun_short hidle ht ?_
    split
    · exact answer_short hidle _
    · exact Short.answer .of_registers hidle _
  | s9Tx a d => exact idleRun_short hidle ht (Short.answer .of_registers hidle _)
  | t9Build d => exact idleRun_short hidle ht (whenLegal_short hidle fun _ => Short.answer .of_registers hidle _)
  | t9Send d =>
    exact idleRun_short hidle ht (whenLegal_short hidle fun _ => (t9SendFrame_short d s).answer hidle _)

end

end Sys2Proof.Machine

/-! The receives and the exchange stay consistent (spec/47_exchange.md section 1, spec/10_state.md section 4). -/

namespace Sys2Proof.Machine

/-! The three ways a block can be with its receives. -/

/-- No receive runs. -/
structure NoReceive (s : State) : Prop where
  t9 : s.t9State = .off
  pjf : s.pjfRxstate = .off

/-- A PJON receive runs. -/
structure Listens (s : State) : Prop where
  pjf : s.pjfRxstate = .listen
  t9 : s.t9State = .off
  timer : s.pjfTimer ≠ 0
  timeout : s.pjfTimeout ≠ 0
  valid : s.rxbufValid = false

/-- A 9-bit receive runs. -/
structure Collects (s : State) : Prop where
  t9 : s.t9State ≠ .off
  pjf : s.pjfRxstate = .off
  timer : s.t9Timer ≠ 0
  empty : s.t9State = .waitFirst → s.rxbuf = []
  valid : s.rxbufValid = false

theorem receivesConsistent_iff (s : State) :
    s.ReceivesConsistent ↔ NoReceive s ∨ Listens s ∨ Collects s := by
  constructor
  · rintro ⟨h9, hp, hempty, hvalid⟩
    by_cases h : s.t9State = .off
    · cases hrx : s.pjfRxstate with
      | off => exact .inl ⟨h, hrx⟩
      | listen => exact .inr (.inl ⟨hrx, h, (hp hrx).1, (hp hrx).2, hvalid (.inr hrx)⟩)
    · exact .inr (.inr ⟨h, (h9 h).1, (h9 h).2, hempty, hvalid (.inl h)⟩)
  · rintro (⟨h9, hp⟩ | ⟨hp, h9, htimer, htimeout, hvalid⟩ | ⟨h9, hp, htimer, hempty, hvalid⟩)
    · simp [State.ReceivesConsistent, h9, hp]
    · exact ⟨fun h => absurd h9 h, fun _ => ⟨htimer, htimeout⟩, by simp [h9], fun _ => hvalid⟩
    · exact ⟨fun _ => ⟨hp, htimer⟩, by simp [hp], hempty, fun _ => hvalid⟩

/-- A receive either goes on as `P` says, or has ended and left none running. -/
structure GoesOn (P : State → Prop) (v : State × Option OpResult) : Prop where
  running : v.2 = none → P v.1
  ended : v.2 ≠ none → NoReceive v.1

/-! The PJON receive. -/

theorem pjfByte_goesOn {s : State} (h : Listens s) (b : Byte) : GoesOn Listens (pjfByte b s) := by
  have hvalid := mt (deframeByte_valid b { s with pjfTimer := s.pjfTimeout }) (by simp [h.valid])
  obtain ⟨e, rx, tag, v, hstate, -⟩ := deframeByte_frame b { s with pjfTimer := s.pjfTimeout }
  rcases pjfByte_cases b s with ⟨-, he⟩ | ⟨info, -, he⟩ | ⟨f, -, he⟩ <;> rw [he] <;> rw [hstate] at hvalid ⊢
  · exact ⟨fun _ => ⟨h.pjf, h.t9, h.timeout, h.timeout, Bool.not_eq_true _ ▸ hvalid⟩, fun hn => absurd rfl hn⟩
  · exact ⟨fun hn => (by cases hn), fun _ => ⟨h.t9, rfl⟩⟩
  · refine ⟨fun hn => (by cases hn), fun _ => ?_⟩
    generalize hq : ({ { s with pjfTimer := s.pjfTimeout } with
      escState := e, rxbuf := rx, rxtag := tag, rxbufValid := v, pjfRxstate := .off } : State) = q
    have hq9 : q.t9State = .off := by rw [← hq]; exact h.t9
    have hqp : q.pjfRxstate = .off := by rw [← hq]
    obtain ⟨hdr, c8, c32, snd, sv, hparse, -⟩ := pjonParse_frame f q
    generalize pjonParse f q = w at hparse
    obtain ⟨t, r⟩ := w
    dsimp only at hparse
    rcases pjfEnd_cases t r with ⟨_, -, hend⟩ | ⟨_, _, -, -, hend⟩ | ⟨-, hend⟩ <;> rw [hend, hparse] <;>
      exact ⟨hq9, hqp⟩

theorem pjfDrain_goesOn (q kept : List RxItem) {s : State} (h : Listens s) : GoesOn Listens (pjfDrain kept q s) := by
  induction q generalizing kept s with
  | nil => exact ⟨fun _ => ⟨h.pjf, h.t9, h.timer, h.timeout, h.valid⟩, fun hn => absurd rfl hn⟩
  | cons item q ih =>
    cases item with
    | char c => exact ih _ h
    | byte b =>
      have hbyte := pjfByte_goesOn h b
      rw [pjfDrain_byte]
      generalize pjfByte b s = v at hbyte
      obtain ⟨t, _ | r⟩ := v
      · exact ih kept (hbyte.running rfl)
      · exact ⟨fun hn => (by cases hn), fun _ => ⟨(hbyte.ended (by simp)).t9, (hbyte.ended (by simp)).pjf⟩⟩

theorem pjfStart_goesOn {s : State} (h : NoReceive s) {t : BitVec 32} (ht : t ≠ 0) :
    GoesOn Listens (pjfStart t s) :=
  pjfDrain_goesOn s.rxq [] (s := s.listening t) ⟨rfl, h.t9, ht, ht, rfl⟩

theorem pjfTick_goesOn {s : State} (h : Listens s) : GoesOn Listens (pjfTick s) := by
  rcases pjfTick_cases s with ⟨htimer, he⟩ | ⟨-, he⟩ <;> rw [he]
  · exact ⟨fun _ => ⟨h.pjf, h.t9, htimer, h.timeout, h.valid⟩, fun hn => absurd rfl hn⟩
  · exact ⟨fun hn => (by cases hn), fun _ => ⟨h.t9, rfl⟩⟩

/-! The 9-bit receive. -/

theorem t9Char_collects {s : State} (h : Collects s) (hidle : s.cfg.eopIdle ≠ 0) (c : BitVec 11) :
    Collects (t9Char c s) := by
  rcases t9Char_cases c s with ⟨-, he⟩ | ⟨-, -, he⟩ | ⟨-, -, he⟩ <;> rw [he]
  · exact ⟨h.t9, h.pjf, h.timer, h.empty, h.valid⟩
  · exact ⟨fun hn => (by cases hn), h.pjf, hidle, fun hn => (by cases hn), rfl⟩
  · exact ⟨fun hn => (by cases hn), h.pjf, hidle, fun hn => (by cases hn), h.valid⟩

theorem foldl_t9Char_collects (cs : List (BitVec 11)) {s : State} (h : Collects s) (hidle : s.cfg.eopIdle ≠ 0) :
    Collects (cs.foldl (fun u c => t9Char c u) s) := by
  induction cs generalizing s with
  | nil => exact h
  | cons c cs ih => exact ih (t9Char_collects h hidle c) ((t9Char_receives c s).frame.cfg.symm ▸ hidle)

theorem t9Start_collects {s : State} (h : NoReceive s) (hidle : s.cfg.eopIdle ≠ 0) {t : BitVec 32} (ht : t ≠ 0)
    (e : Option (BitVec 16)) : Collects (t9Start t e s) :=
  foldl_t9Char_collects _ (s := s.waiting t e) ⟨fun hn => (by cases hn), h.pjf, ht, fun _ => rfl, rfl⟩ hidle

theorem t9Tick_goesOn {s : State} (h : Collects s) : GoesOn Collects (t9Tick s) := by
  rcases t9Tick_cases s with ⟨htimer, he⟩ | ⟨-, hoff, he⟩ | ⟨-, -, he⟩ | ⟨-, -, he⟩ <;> rw [he]
  · exact ⟨fun _ => ⟨h.t9, h.pjf, htimer, h.empty, h.valid⟩, fun hn => absurd rfl hn⟩
  · exact absurd hoff h.t9
  · exact ⟨fun hn => (by cases hn), fun _ => ⟨rfl, h.pjf⟩⟩
  · refine ⟨fun hn => (by cases hn), fun _ => ?_⟩
    obtain ⟨n, acc, -, ⟨d, -, hend⟩ | ⟨k, info, -, hend⟩⟩ := t9Finish_frame { s with t9Timer := 0, t9State := .off } <;>
      rw [hend] <;> exact ⟨rfl, h.pjf⟩

/-! The exchange, between attempts and during one. -/

/-- An attempt is out: the registers of the exchange while it awaits (R323, R327). -/
structure Attempting (s : State) : Prop where
  state : s.xchState = .awaitingResponse
  retries : s.xchRetries ≤ s.cfg.retryPacket
  attempts : s.xchAttempts.toNat = s.xchRetries.toNat + 1
  resp : s.xchResp = []

/-- No exchange runs (R320, R332). -/
structure Rests (s : State) : Prop where
  state : s.xchState = .idle ∨ s.xchState = .done ∨ s.xchState = .failed
  retries : s.xchRetries ≤ s.cfg.retryPacket
  attempts : s.xchState ≠ .idle → s.xchAttempts.toNat = s.xchRetries.toNat + 1
  resp : s.xchState ≠ .done → s.xchResp = []
  lasterr : s.xchState = .failed → s.xchLasterr ≠ none

/-- The receive that an attempt waits for is that of the configured transport. -/
structure AwaitedReceive (s : State) : Prop where
  ser9 : s.cfg.transport = .ser9 → s.t9State ≠ .off
  pjon : s.cfg.transport = .pjon → s.pjfRxstate = .listen

theorem exchangeConsistent_iff (s : State) :
    s.ExchangeConsistent ↔ Rests s ∨ (Attempting s ∧ AwaitedReceive s) := by
  constructor
  · rintro ⟨hstate, h9, hp, hretries, hattempts, hresp, hlast⟩
    by_cases hx : s.xchState = .awaitingResponse
    · exact .inr ⟨⟨hx, hretries, hattempts (by rw [hx]; decide), hresp (by rw [hx]; decide)⟩, ⟨h9 hx, hp hx⟩⟩
    · refine .inl ⟨?_, hretries, hattempts, hresp, hlast⟩
      rcases hstate with h | h | h | h
      exacts [.inl h, absurd h hx, .inr (.inl h), .inr (.inr h)]
  · rintro (⟨hstate, hretries, hattempts, hresp, hlast⟩ | ⟨⟨hx, hretries, hattempts, hresp⟩, ⟨h9, hp⟩⟩)
    · have hx : s.xchState ≠ .awaitingResponse := by rcases hstate with h | h | h <;> rw [h] <;> decide
      refine ⟨?_, fun h => absurd h hx, fun h => absurd h hx, hretries, hattempts, hresp, hlast⟩
      rcases hstate with h | h | h
      exacts [.inl h, .inr (.inr (.inl h)), .inr (.inr (.inr h))]
    · exact ⟨.inr (.inl hx), fun _ => h9, fun _ => hp, hretries, fun _ => hattempts, fun _ => hresp,
        fun h => by rw [hx] at h; cases h⟩

/-- What the registers of a rest and of an attempt have to agree in. -/
theorem Rests.congr {s t : State} (h : Rests s) (hstate : t.xchState = s.xchState) (hretries : t.xchRetries = s.xchRetries)
    (hattempts : t.xchAttempts = s.xchAttempts) (hresp : t.xchResp = s.xchResp) (hcfg : t.cfg = s.cfg)
    (hlast : s.xchLasterr ≠ none → t.xchLasterr ≠ none) : Rests t where
  state := hstate.symm ▸ h.state
  retries := by rw [hretries, hcfg]; exact h.retries
  attempts := by rw [hstate, hattempts, hretries]; exact h.attempts
  resp := by rw [hstate, hresp]; exact h.resp
  lasterr := by rw [hstate]; exact fun hf => hlast (h.lasterr hf)

section
variable {s : State} {v : State × Option OpResult}

theorem Receives.rests (hv : Receives s v) (h : Rests s) : Rests v.1 :=
  h.congr hv.frame.xchState hv.frame.xchRetries hv.frame.xchAttempts hv.frame.xchResp hv.frame.cfg hv.lasterr

theorem Receives.attempting (hv : Receives s v) (h : Attempting s) : Attempting v.1 where
  state := hv.frame.xchState.trans h.state
  retries := by rw [hv.frame.xchRetries, hv.frame.cfg]; exact h.retries
  attempts := by rw [hv.frame.xchAttempts, hv.frame.xchRetries]; exact h.attempts
  resp := hv.frame.xchResp.trans h.resp

end

/-- Both invariants of O16. -/
structure Consistent (s : State) : Prop where
  receives : NoReceive s ∨ Listens s ∨ Collects s
  exchange : Rests s ∨ (Attempting s ∧ AwaitedReceive s)

theorem consistent_iff (s : State) : Consistent s ↔ s.ReceivesConsistent ∧ s.ExchangeConsistent := by
  rw [receivesConsistent_iff, exchangeConsistent_iff]
  exact ⟨fun h => ⟨h.receives, h.exchange⟩, fun h => ⟨h.1, h.2⟩⟩

theorem NoReceive.idle {s : State} (h : NoReceive s) (hrests : Rests s) : s.Idle := ⟨hrests.state, h.t9, h.pjf⟩

/-- A short operation keeps an idle block consistent. -/
theorem Short.consistent {s t : State} (h : Short s t) (hreceive : NoReceive s) (hrests : Rests s) : Consistent t := by
  rw [h.frame]
  exact ⟨.inl ⟨hreceive.t9, hreceive.pjf⟩, .inl (hrests.congr rfl rfl rfl rfl rfl id)⟩

theorem xchFail_consistent {s : State} (hreceive : NoReceive s) (hretries : s.xchRetries ≤ s.cfg.retryPacket)
    (hattempts : s.xchAttempts.toNat = s.xchRetries.toNat + 1) (hresp : s.xchResp = []) (k : ErrKind)
    (info : BitVec 16) : Consistent (xchFail k info s) := by
  rw [xchFail_eq]
  exact ⟨.inl ⟨hreceive.t9, hreceive.pjf⟩,
    .inl ⟨.inr (.inr rfl), hretries, fun _ => hattempts, fun _ => hresp, fun _ => Option.some_ne_none _⟩⟩

theorem xchValidate_consistent {s : State} (hreceive : NoReceive s) (h : Attempting s) (r : Bytes) :
    Consistent (xchValidate r s) := by
  unfold xchValidate
  rcases pktResponse_cases r with ⟨k, info, -, he⟩ | ⟨p, -, he⟩ <;> rw [he]
  · exact xchFail_consistent ⟨hreceive.t9, hreceive.pjf⟩ h.retries h.attempts h.resp k info
  · have hdone : Rests { s with xchResp := p, xchState := .done } :=
      ⟨.inr (.inl rfl), h.retries, fun _ => h.attempts, fun hn => absurd rfl hn, fun hf => by cases hf⟩
    have hnone : NoReceive { s with xchResp := p, xchState := .done } := ⟨hreceive.t9, hreceive.pjf⟩
    exact (answer_short (hnone.idle hdone) _).consistent hnone hdone

/-- An exchange about to send an attempt: as many attempts as retries have been counted. -/
structure Ready (s : State) : Prop where
  noReceive : NoReceive s
  retries : s.xchRetries ≤ s.cfg.retryPacket
  attempts : s.xchAttempts.toNat = s.xchRetries.toNat
  resp : s.xchResp = []
  rxTimeout : s.cfg.rxTimeout ≠ 0
  eopIdle : s.cfg.eopIdle ≠ 0

/-- What the send of an attempt writes (R323). -/
theorem xchTransmit_frame (s : State) :
    ∃ (tx : Bytes) (acc : BitVec 16) (c8 : Byte) (c32 : BitVec 32) (pm : PModeReg) (line : List LineEvent),
      xchTransmit s = { s with
        txbuf := tx, chk16Acc := acc, crc8Reg := c8, crc32Reg := c32, s9Pmode := pm, lineTx := line } := by
  unfold xchTransmit
  split
  · rw [t9SendFrame_eq]
    exact ⟨_, _, _, _, _, _, rfl⟩
  · rw [pjonSendFrame_eq, pjonBuildFrame_eq]
    exact ⟨_, _, _, _, _, _, rfl⟩

/-- An attempt goes out, and its receive runs on or has ended at once. -/
theorem xchAttempt_goesOn {s : State} (h : Ready s) :
    GoesOn Consistent (xchAttempt s) ∧ Attempting (xchAttempt s).1 ∧
      (xchAttempt s).1.retriesLeft = s.retriesLeft := by
  obtain ⟨tx, acc, c8, c32, pm, line, hsent⟩ := xchTransmit_frame { s with xchAttempts := s.xchAttempts + 1 }
  have hcount : (s.xchAttempts + 1).toNat = s.xchRetries.toNat + 1 := by
    have hretries := s.xchRetries.isLt
    have hone : (1 : BitVec 9).toNat = 1 := rfl
    rw [BitVec.toNat_add, h.attempts, hone]
    exact Nat.mod_eq_of_lt (by omega)
  unfold xchAttempt
  rw [hsent]
  generalize hq : ({ { s with xchAttempts := s.xchAttempts + 1 } with
    txbuf := tx, chk16Acc := acc, crc8Reg := c8, crc32Reg := c32, s9Pmode := pm, lineTx := line,
    xchState := .awaitingResponse } : State) = q
  have hattempting : Attempting q := by rw [← hq]; exact ⟨rfl, h.retries, hcount, h.resp⟩
  have hnone : NoReceive q := by rw [← hq]; exact ⟨h.noReceive.t9, h.noReceive.pjf⟩
  have hcfg : q.cfg = s.cfg := by rw [← hq]
  have hleft : ∀ {v : State × Option OpResult}, Receives q v → v.1.retriesLeft = s.retriesLeft := fun hv => by
    rw [State.retriesLeft, hv.frame.cfg, hv.frame.xchRetries, ← hq]
    rfl
  unfold xchListen
  split
  · next htransport =>
    have hstart := t9Start_receives q.cfg.rxTimeout (q.xchExplen.map (· + 1)) q
    have hcollects := t9Start_collects hnone (hcfg ▸ h.eopIdle) (hcfg ▸ h.rxTimeout) (q.xchExplen.map (· + 1))
    refine ⟨⟨fun _ => ⟨.inr (.inr hcollects), .inr ⟨hstart.attempting hattempting, fun _ => hcollects.t9, ?_⟩⟩,
      fun hn => absurd rfl hn⟩, hstart.attempting hattempting, hleft hstart⟩
    exact fun hp => absurd (htransport.symm.trans (hstart.frame.cfg ▸ hp)) (by decide)
  · next htransport =>
    have hstart := pjfStart_receives q.cfg.rxTimeout q
    have hgoes := pjfStart_goesOn hnone (hcfg ▸ h.rxTimeout)
    refine ⟨⟨fun hn => ⟨.inr (.inl (hgoes.running hn)), .inr ⟨hstart.attempting hattempting, ?_,
      fun _ => (hgoes.running hn).pjf⟩⟩, hgoes.ended⟩, hstart.attempting hattempting, hleft hstart⟩
    exact fun h9 => absurd (htransport.symm.trans (hstart.frame.cfg ▸ h9)) (by decide)

/-- A failed attempt with a retry left makes the exchange ready for the next one. -/
theorem xchRetry_ready {s : State} (hreceive : NoReceive s) (h : Attempting s) (htimeout : s.cfg.rxTimeout ≠ 0)
    (heop : s.cfg.eopIdle ≠ 0) {n : Nat} (hleft : n + 1 = s.retriesLeft) (k : ErrKind) (info : BitVec 16) :
    Ready (xchRetry k info s) ∧ n = (xchRetry k info s).retriesLeft := by
  have hlimit := s.cfg.retryPacket.isLt
  unfold State.retriesLeft at *
  have hnext : (s.xchRetries + 1).toNat = s.xchRetries.toNat + 1 := by
    rw [BitVec.toNat_add]
    exact Nat.mod_eq_of_lt (by simp; omega)
  refine ⟨⟨⟨hreceive.t9, hreceive.pjf⟩, ?_, h.attempts.trans hnext.symm, h.resp, htimeout, heop⟩, ?_⟩
  · change s.xchRetries + 1 ≤ s.cfg.retryPacket
    rw [BitVec.le_def, hnext]
    omega
  · change n = s.cfg.retryPacket.toNat - (s.xchRetries + 1).toNat
    omega

/-- By induction on the retries that are left: an exchange settles in a consistent state. -/
theorem xchSettle_consistent (n : Nat) {s : State} (hreceive : NoReceive s) (h : Attempting s)
    (htimeout : s.cfg.rxTimeout ≠ 0) (heop : s.cfg.eopIdle ≠ 0) (hleft : n = s.retriesLeft) {r : OpResult}
    (hr : r ≠ .void) : Consistent (xchSettle n r s) := by
  have hfail := xchFail_consistent hreceive h.retries h.attempts h.resp
  induction n generalizing s r with
  | zero =>
    cases r with
    | value p => exact xchValidate_consistent hreceive h p
    | noValue => exact hfail _ _
    | void => exact absurd rfl hr
    | err k info => exact hfail _ _
  | succ n ih =>
    have next : ∀ k info, Consistent (match (xchAttempt (xchRetry k info s)).2 with
        | none => (xchAttempt (xchRetry k info s)).1
        | some r => xchSettle n r (xchAttempt (xchRetry k info s)).1) := by
      intro k info
      obtain ⟨hready, hn⟩ := xchRetry_ready hreceive h htimeout heop hleft k info
      obtain ⟨hgoes, hattempting, hretries⟩ := xchAttempt_goesOn hready
      have hpending := xchAttempt_pending (xchRetry k info s)
      have hcfg := hpending.quiet.cfg
      generalize xchAttempt (xchRetry k info s) = v at *
      obtain ⟨t, _ | r⟩ := v
      · exact hgoes.running rfl
      · have hnone := hgoes.ended (by simp)
        exact ih hnone hattempting (hcfg ▸ htimeout) (hcfg ▸ heop) (hn.trans hretries.symm)
          (fun hv => hpending.notVoid (congrArg some hv))
          (xchFail_consistent hnone hattempting.retries hattempting.attempts hattempting.resp)
    cases r with
    | value p => exact xchValidate_consistent hreceive h p
    | noValue => rw [xchSettle_succ_noValue]; exact next _ _
    | void => exact absurd rfl hr
    | err k info =>
      by_cases hk : k.retryable = true
      · rw [xchSettle_succ_err hk]; exact next _ _
      · rw [xchSettle_fatal (Bool.not_eq_true _ ▸ hk)]; exact hfail _ _

theorem receiveEnded_consistent {s : State} {v : State × Option OpResult} (hgoes : GoesOn Consistent v)
    (hv : Receives s v) (h : Rests s ∨ Attempting s) (htimeout : s.cfg.rxTimeout ≠ 0) (heop : s.cfg.eopIdle ≠ 0) :
    Consistent (receiveEnded v) := by
  obtain ⟨t, _ | r⟩ := v
  · exact hgoes.running rfl
  · have hnone := hgoes.ended (by simp)
    rcases h with hrests | hattempting
    · have hrests' : Rests t := hv.rests hrests
      rw [receiveEnded_standalone (State.not_awaiting_of_idle (hnone.idle hrests'))]
      exact (answer_short (hnone.idle hrests') r).consistent hnone hrests'
    · have hattempting' : Attempting t := hv.attempting hattempting
      have hcfg : t.cfg = s.cfg := hv.frame.cfg
      rw [receiveEnded_exchange hattempting'.state]
      exact xchSettle_consistent _ hnone hattempting' (hcfg ▸ htimeout) (hcfg ▸ heop) rfl
        fun hr => hv.notVoid (congrArg some hr)

theorem xchStart_consistent {s : State} (hreceive : NoReceive s) (htimeout : s.cfg.rxTimeout ≠ 0)
    (heop : s.cfg.eopIdle ≠ 0) (op : XchOp) (body : BitVec 48) (e : Option (BitVec 16)) :
    Consistent (xchStart op body e s) := by
  have hready : Ready (xchBegin op body e s) :=
    ⟨⟨hreceive.t9, hreceive.pjf⟩, BitVec.le_def.2 (Nat.zero_le _), rfl, rfl, htimeout, heop⟩
  obtain ⟨hgoes, hattempting, -⟩ := xchAttempt_goesOn hready
  have hpending := xchAttempt_pending (xchBegin op body e s)
  have hcfg : (xchAttempt (xchBegin op body e s)).1.cfg = s.cfg := hpending.quiet.cfg
  unfold xchStart
  generalize xchAttempt (xchBegin op body e s) = v at *
  obtain ⟨t, _ | r⟩ := v
  · exact hgoes.running rfl
  · rw [receiveEnded_exchange hattempting.state]
    exact xchSettle_consistent _ (hgoes.ended (by simp)) hattempting (hcfg ▸ htimeout) (hcfg ▸ heop) rfl
      fun hr => hpending.notVoid (congrArg some hr)

/-! The events. -/

section
variable {s t : State}

/-- A receive that goes on keeps the exchange's registers, and with them what the exchange waits for. -/
theorem Receives.consistent {P : State → Prop} {v : State × Option OpResult} (hv : Receives s v) (hgoes : GoesOn P v)
    (hexchange : Rests s ∨ (Attempting s ∧ AwaitedReceive s))
    (hreceives : ∀ t, P t → NoReceive t ∨ Listens t ∨ Collects t)
    (hawaited : AwaitedReceive s → P v.1 → AwaitedReceive v.1) : GoesOn Consistent v where
  running hn := ⟨hreceives _ (hgoes.running hn), hexchange.imp hv.rests fun ⟨ha, hr⟩ =>
    ⟨hv.attempting ha, hawaited hr (hgoes.running hn)⟩⟩
  ended := hgoes.ended

theorem AwaitedReceive.of_listens (h : AwaitedReceive s) (hs : Listens s) (ht : Listens t) (hcfg : t.cfg = s.cfg) :
    AwaitedReceive t :=
  ⟨fun h9 => absurd hs.t9 (h.ser9 (hcfg ▸ h9)), fun _ => ht.pjf⟩

theorem AwaitedReceive.of_collects (h : AwaitedReceive s) (hs : Collects s) (ht : Collects t) (hcfg : t.cfg = s.cfg) :
    AwaitedReceive t :=
  ⟨fun _ => ht.t9, fun hp => absurd (hs.pjf.symm.trans (h.pjon (hcfg ▸ hp))) (by decide)⟩

/-- The receive of the PJON transport, at a byte or a tick. -/
theorem receiveEnded_consistent_of_listens {v : State × Option OpResult} (h : Consistent s) (hs : Listens s)
    (htimeout : s.cfg.rxTimeout ≠ 0) (heop : s.cfg.eopIdle ≠ 0) (hv : Receives s v) (hgoes : GoesOn Listens v) :
    Consistent (receiveEnded v) :=
  receiveEnded_consistent
    (hv.consistent hgoes h.exchange (fun _ ht => .inr (.inl ht)) fun ha ht => ha.of_listens hs ht hv.frame.cfg)
    hv (h.exchange.imp_right And.left) htimeout heop

/-- The receive of the 9-bit transport, at a tick. -/
theorem receiveEnded_consistent_of_collects {v : State × Option OpResult} (h : Consistent s) (hs : Collects s)
    (htimeout : s.cfg.rxTimeout ≠ 0) (heop : s.cfg.eopIdle ≠ 0) (hv : Receives s v) (hgoes : GoesOn Collects v) :
    Consistent (receiveEnded v) :=
  receiveEnded_consistent
    (hv.consistent hgoes h.exchange (fun _ ht => .inr (.inr ht)) fun ha ht => ha.of_collects hs ht hv.frame.cfg)
    hv (h.exchange.imp_right And.left) htimeout heop

/-- Events, answers and the queue are no part of what is consistent. -/
theorem Consistent.congr (h : Consistent s) (es : List Event) (q : List RxItem) (answers : List Bytes) :
    Consistent { s with events := es, rxq := q, rsp := answers } where
  receives := h.receives.imp (fun h => ⟨h.t9, h.pjf⟩)
    (Or.imp (fun h => ⟨h.pjf, h.t9, h.timer, h.timeout, h.valid⟩) fun h => ⟨h.t9, h.pjf, h.timer, h.empty, h.valid⟩)
  exchange := h.exchange.imp (fun h => h.congr rfl rfl rfl rfl rfl id)
    fun ⟨h, hr⟩ => ⟨⟨h.state, h.retries, h.attempts, h.resp⟩, ⟨hr.ser9, hr.pjon⟩⟩

theorem NoReceive.not_t9 (h : NoReceive s) : ¬ s.t9State ≠ .off := not_not.2 h.t9

theorem NoReceive.not_pjf (h : NoReceive s) : ¬ s.pjfRxstate = .listen := by rw [h.pjf]; decide

theorem onTick_consistent (h : Consistent s) (htimeout : s.cfg.rxTimeout ≠ 0) (heop : s.cfg.eopIdle ≠ 0) :
    Consistent (onTick s) := by
  rcases h.receives with hs | hs | hs
  · rw [onTick, if_neg hs.not_t9, if_neg hs.not_pjf]
    exact h
  · rw [onTick_pjf hs.t9 hs.pjf]
    exact receiveEnded_consistent_of_listens h hs htimeout heop (pjfTick_receives s) (pjfTick_goesOn hs)
  · rw [onTick_t9 hs.t9]
    exact receiveEnded_consistent_of_collects h hs htimeout heop (t9Tick_receives s) (t9Tick_goesOn hs)

theorem onRxByte_consistent (h : Consistent s) (htimeout : s.cfg.rxTimeout ≠ 0) (heop : s.cfg.eopIdle ≠ 0) (b : Byte) :
    Consistent (onRxByte b s) := by
  by_cases hp : s.pjfRxstate = .listen
  · rw [onRxByte_pjf hp]
    rcases h.receives with hs | hs | hs
    · exact absurd hp hs.not_pjf
    · exact receiveEnded_consistent_of_listens h hs htimeout heop (pjfByte_receives b s) (pjfByte_goesOn hs b)
    · exact absurd (hs.pjf.symm.trans hp) (by decide)
  · rw [onRxByte, if_neg hp]
    exact h.congr s.events _ s.rsp

theorem onRxChar_consistent (h : Consistent s) (heop : s.cfg.eopIdle ≠ 0) (c : BitVec 11) :
    Consistent (onRxChar c s) := by
  by_cases h9 : s.t9State = .off
  · rw [onRxChar, if_neg (not_not.2 h9)]
    exact h.congr s.events _ s.rsp
  · rw [onRxChar_t9 h9]
    rcases h.receives with hs | hs | hs
    · exact absurd hs.t9 h9
    · exact absurd hs.t9 h9
    · have hv := t9Char_receives c s
      have hgoes : GoesOn Collects (t9Char c s, none) := ⟨fun _ => t9Char_collects hs heop c, fun hn => absurd rfl hn⟩
      exact (hv.consistent hgoes h.exchange (fun _ ht => .inr (.inr ht))
        fun ha ht => ha.of_collects hs ht hv.frame.cfg).running rfl

theorem Rests.of_idle (h : Consistent s) (hidle : s.Idle) : Rests s :=
  h.exchange.elim id fun ⟨ha, _⟩ => absurd ha.state (State.not_awaiting_of_idle hidle)

theorem resetWith_consistent (p : Params) (s : State) (answers : List Bytes) :
    Consistent { s.resetWith p with rsp := answers } where
  receives := .inl ⟨rfl, rfl⟩
  exchange := .inl ⟨.inl rfl, BitVec.le_def.2 (Nat.zero_le _), fun h => absurd rfl h, fun _ => rfl, fun h => by cases h⟩

/-- An operation on an idle block, by what it can be there. -/
theorem IdleRun.consistent {i : Instr} (hrun : IdleRun s i t) (h : Consistent s) (hidle : s.Idle)
    (htimeout : s.cfg.rxTimeout ≠ 0) (heop : s.cfg.eopIdle ≠ 0) : Consistent t := by
  have hnone : NoReceive s := ⟨hidle.2.1, hidle.2.2⟩
  have hrests := Rests.of_idle h hidle
  cases hrun with
  | reset => exact resetWith_consistent s.params s _
  | short hshort => exact hshort.consistent hnone hrests
  | parse f =>
    have hv := pjonParse_receives f s
    have hnone' : NoReceive (pjonParse f s).1 := by
      obtain ⟨hdr, c8, c32, snd, v, hstate, -⟩ := pjonParse_frame f s
      rw [hstate]
      exact ⟨hnone.t9, hnone.pjf⟩
    have hrests' := hv.rests hrests
    exact (answer_short (hnone'.idle hrests') _).consistent hnone' hrests'
  | t9Recv e ht =>
    exact ⟨.inr (.inr (t9Start_collects hnone heop ht e)), .inl ((t9Start_receives _ e s).rests hrests)⟩
  | @pjonRecv tm e ht =>
    have hv := pjfStart_receives tm s
    have hgoes := pjfStart_goesOn hnone ht
    exact receiveEnded_consistent
      ⟨fun hn => ⟨.inr (.inl (hgoes.running hn)), .inl (hv.rests hrests)⟩, hgoes.ended⟩ hv (.inl hrests) htimeout heop
  | exchange op port ty ad pa e => exact xchStart_consistent hnone htimeout heop _ _ _

/-- A refusal changes the error registers at most. -/
theorem refuse_consistent (h : Consistent s) (k : ErrKind) (info : BitVec 16) : Consistent (s.refuse k info) := by
  by_cases hidle : s.Idle
  · exact (refuse_short hidle k info).consistent ⟨hidle.2.1, hidle.2.2⟩ (Rests.of_idle h hidle)
  · rw [State.refuse_of_busy hidle]
    exact h.congr s.events s.rxq _

theorem exec_consistent {i : Instr} (h : Consistent s) (htimeout : s.cfg.rxTimeout ≠ 0) (heop : s.cfg.eopIdle ≠ 0)
    (hexec : exec i s = .next t) : Consistent t := by
  by_cases hidle : s.Idle
  · exact (exec_idleRun hidle hexec).consistent h hidle htimeout heop
  · by_cases hreset : i = .reset
    · subst hreset
      rw [exec_reset] at hexec
      cases hexec
      exact resetWith_consistent s.params s _
    · rw [busyRefusesEveryOperation s i hidle hreset] at hexec
      cases hexec
      exact h.congr s.events s.rxq _

theorem refuseCommand_consistent (h : Consistent s) (e : DecodeError) : Consistent (refuseCommand e s) := by
  cases e with
  | reservedOpsel op => exact refuse_consistent h _ _
  | badOperands op =>
    rw [refuseCommand_badOperands]
    split <;> exact refuse_consistent h _ _
  | noOpsel =>
    rw [refuseCommand_noOpsel]
    split <;> exact refuse_consistent h _ _

theorem runEvent_consistent {e : Event} (h : Consistent s) (htimeout : s.cfg.rxTimeout ≠ 0) (heop : s.cfg.eopIdle ≠ 0)
    (hrun : runEvent e s = .next t) : Consistent t := by
  cases e with
  | cmd bytes =>
    rcases runCommand_cases hrun with ⟨i, -, hexec⟩ | ⟨e, rfl⟩
    · exact exec_consistent h htimeout heop hexec
    · exact refuseCommand_consistent h e
  | tick => cases hrun; exact onTick_consistent h htimeout heop
  | rxChar c => cases hrun; exact onRxChar_consistent h heop c
  | rxByte b => cases hrun; exact onRxByte_consistent h htimeout heop b
  | powerOn p =>
    rw [show runEvent (.powerOn p) s = powerOn p s from rfl, powerOn] at hrun
    split at hrun
    · cases hrun; exact resetWith_consistent p s _
    · cases hrun

end

/-- The timeouts of a legal parameter set are live. -/
theorem State.ConfigLoaded.timeouts {s : State} (h : s.ConfigLoaded) :
    s.cfg.rxTimeout ≠ 0 ∧ s.cfg.eopIdle ≠ 0 ∧ 255 ≤ s.params.maxbuf := by
  obtain ⟨hlegal, hcfg⟩ := h
  obtain ⟨heop, htimeout, hmax⟩ := (Params.legal_iff s.params).1 hlegal
  rw [hcfg]
  exact ⟨htimeout, heop, hmax⟩

/-- Settles O16: the receives are in one of three ways, the exchange in one of two, and each event keeps both. -/
theorem stepKeepsReceivesAndExchange : Obligations.StepKeepsReceivesAndExchange := by
  intro s t hloaded hreceives hexchange hstep
  obtain ⟨htimeout, heop, -⟩ := hloaded.timeouts
  have h : Consistent s := (consistent_iff s).2 ⟨hreceives, hexchange⟩
  refine (consistent_iff t).1 ?_
  cases hev : s.events with
  | nil => rw [step_none hev] at hstep; cases hstep; exact h
  | cons e rest =>
    rw [step_event hev] at hstep
    exact runEvent_consistent (h.congr rest s.rxq s.rsp) htimeout heop hstep

end Sys2Proof.Machine

/-! What the check engines detect, and how they stream (spec/40_chk16.md section 2, spec/41_crc8_crc32.md). -/

namespace Sys2Proof.Machine

/-! A flipped bit in a 16-bit checked frame. -/

theorem flippedByte_ne (b : Byte) {k : Nat} (hk : k < 8) : b ^^^ (1#8 <<< k) ≠ b := by
  have hone : (1#8 <<< k) ≠ 0#8 := by interval_cases k <;> decide
  intro h
  refine hone ?_
  calc (1#8 <<< k) = b ^^^ (b ^^^ (1#8 <<< k)) := by rw [← BitVec.xor_assoc, BitVec.xor_self, BitVec.zero_xor]
    _ = 0#8 := by rw [h, BitVec.xor_self]

theorem byteSum_cons (b : Byte) (d : Bytes) : byteSum (b :: d) = b.toNat + byteSum d := by simp [byteSum]

/-- Replacing a byte moves the sum by the difference. -/
theorem byteSum_set {d : Bytes} {j : Nat} (hj : j < d.length) (x : Byte) :
    byteSum (d.set j x) + (d.getD j 0).toNat = byteSum d + x.toNat := by
  induction d generalizing j with
  | nil => cases hj
  | cons b d ih =>
    cases j with
    | zero => simp only [List.set_cons_zero, List.getD_cons_zero, byteSum_cons]; omega
    | succ j =>
      have hrest := ih (Nat.lt_of_succ_lt_succ hj)
      simp only [List.set_cons_succ, List.getD_cons_succ, byteSum_cons]
      omega

/-- The difference of two bytes is too small for the modulus. -/
theorem chk16_set_ne {d : Bytes} {j : Nat} (hj : j < d.length) {x : Byte} (hx : x ≠ d.getD j 0) :
    chk16 (d.set j x) ≠ chk16 d := by
  have hsum := byteSum_set hj x
  have hne : x.toNat ≠ (d.getD j 0).toNat := fun h => hx (BitVec.eq_of_toNat_eq h)
  have hxlt := x.isLt
  have hblt := (d.getD j 0).isLt
  intro h
  rw [← BitVec.toNat_inj, chk16_toNat, chk16_toNat] at h
  omega

theorem flipBit_append_of_lt {d : Bytes} {j : Nat} (hj : j < d.length) (k : Nat) (trailer : Bytes) :
    flipBit (d ++ trailer) j k = d.set j (d.getD j 0 ^^^ (1#8 <<< k)) ++ trailer := by
  rw [flipBit, List.getD_append _ _ _ _ hj, List.set_append_left _ _ hj]

theorem flipBit_append_high (d : Bytes) (k : Nat) (hi lo : Byte) :
    flipBit (d ++ [hi, lo]) d.length k = d ++ [hi ^^^ (1#8 <<< k), lo] := by
  simp [flipBit]

theorem flipBit_append_low (d : Bytes) (k : Nat) (hi lo : Byte) :
    flipBit (d ++ [hi, lo]) (d.length + 1) k = d ++ [hi, lo ^^^ (1#8 <<< k)] := by
  simp [flipBit]

/-- A trailer is read as another value when one of its bytes is another. -/
theorem u16be_inj {hi lo hi' lo' : Byte} (h : u16be hi lo = u16be hi' lo') : hi = hi' ∧ lo = lo' := by
  have hbytes := congrArg be16 h
  rw [be16_u16be, be16_u16be] at hbytes
  simpa using hbytes

/-- Settles O22: a flip in the data moves the sum by less than the modulus, one in the trailer changes the value that is
read; `FF FF` is outside the range of a check. -/
theorem chk16DetectsSingleBitFlips : Obligations.Chk16DetectsSingleBitFlips := by
  intro s d hidle hd
  have hcheck : chk16 d = u16be (hi8 (chk16 d)) (lo8 (chk16 d)) := (u16be_hi8_lo8 _).symm
  refine ⟨exec_chk16Val_of_match hidle hd hcheck, fun j k hj hk => ?_, exec_chk16Val_of_mismatch hidle hd ?_⟩
  · rw [be16]
    rcases Nat.lt_trichotomy j d.length with hdata | rfl | htrailer
    · have hne := chk16_set_ne hdata (flippedByte_ne (d.getD j 0) hk)
      rw [flipBit_append_of_lt hdata]
      exact ⟨_, exec_chk16Val_of_mismatch hidle (fun hnil => hd ((List.set_eq_nil_iff _ _).1 hnil)) (hcheck ▸ hne)⟩
    · rw [flipBit_append_high]
      exact ⟨_, exec_chk16Val_of_mismatch hidle hd fun h =>
        flippedByte_ne _ hk (u16be_inj (h.symm.trans hcheck)).1⟩
    · obtain rfl : j = d.length + 1 := by omega
      rw [flipBit_append_low]
      exact ⟨_, exec_chk16Val_of_mismatch hidle hd fun h =>
        flippedByte_ne _ hk (u16be_inj (h.symm.trans hcheck)).2⟩
  · intro h
    have hrange := chk16_le d
    rw [h] at hrange
    exact absurd hrange (by decide)

/-! CRC8 is linear (R153). -/

/-- The bit step is linear: the polynomial enters for each operand whose low bit is set, twice when both are. -/
theorem crc8BitStep_linear (x y : Byte) : crc8BitStep (x ^^^ y) = crc8BitStep x ^^^ crc8BitStep y := by
  revert x y
  unfold crc8BitStep
  intro x y
  rw [BitVec.getLsbD_xor, BitVec.ushiftRight_xor_distrib]
  cases x.getLsbD 0 <;> cases y.getLsbD 0
  · rfl
  · exact BitVec.xor_assoc _ _ _
  · change x >>> 1 ^^^ y >>> 1 ^^^ Config.crc8Poly = x >>> 1 ^^^ Config.crc8Poly ^^^ y >>> 1
    rw [BitVec.xor_assoc, BitVec.xor_comm (y >>> 1), ← BitVec.xor_assoc]
  · change x >>> 1 ^^^ y >>> 1 = x >>> 1 ^^^ Config.crc8Poly ^^^ (y >>> 1 ^^^ Config.crc8Poly)
    rw [BitVec.xor_comm (y >>> 1) Config.crc8Poly, BitVec.xor_assoc, ← BitVec.xor_assoc Config.crc8Poly, BitVec.xor_self,
      BitVec.zero_xor]

theorem iterate_crc8BitStep_linear (n : Nat) (x y : Byte) :
    crc8BitStep^[n] (x ^^^ y) = crc8BitStep^[n] x ^^^ crc8BitStep^[n] y := by
  induction n generalizing x y with
  | zero => rfl
  | succ n ih => rw [Function.iterate_succ_apply, Function.iterate_succ_apply, Function.iterate_succ_apply,
      crc8BitStep_linear, ih]

theorem roll8_linear (c c' b b' : Byte) : roll8 (c ^^^ c') (b ^^^ b') = roll8 c b ^^^ roll8 c' b' := by
  rw [roll8_eq_iterate, roll8_eq_iterate, roll8_eq_iterate, ← iterate_crc8BitStep_linear]
  congr 1
  rw [BitVec.xor_assoc, ← BitVec.xor_assoc c', BitVec.xor_comm c' b, BitVec.xor_assoc, ← BitVec.xor_assoc c]

/-- Once a message's own CRC has been taken, the engine is where it starts. -/
theorem crc8_append_crc8 (m rest : Bytes) : crc8 (m ++ crc8 m :: rest) = crc8 rest := by
  have hclear : roll8 (crc8 m) (crc8 m) = 0 := (roll8_eq_zero_iff _ _).2 rfl
  rw [crc8_append, List.foldl_cons, hclear]
  rfl

/-- Settles O24: linearity bit step by bit step; a byte equal to the register clears it. -/
theorem crc8LinearAndSelfChecking : Obligations.Crc8LinearAndSelfChecking :=
  ⟨roll8_linear, crc8_append_crc8 [], fun m => (crc8_concat_eq_zero_iff m _).2 rfl, crc8_append_crc8⟩

/-! Streaming (R138, R155, R164). -/

/-- An engine whose update takes its register from `a` to `upd a b` and answers with `result` of it, fed byte by byte:
the register is folded over the bytes, and the last answer is its result. -/
theorem execSeq_updates {α : Type} {op : Byte → Instr} {reg : State → α} {upd : α → Byte → α} {result : α → Bytes}
    (hop : ∀ (s : State) (b : Byte), s.Idle → ∃ t : State, exec (op b) s = .next t ∧ t.Idle ∧
      reg t = upd (reg s) b ∧ t.rsp = s.rsp ++ [result (upd (reg s) b)])
    {m : Bytes} (hm : m ≠ []) {s : State} (hidle : s.Idle) :
    ∃ t : State, execSeq (m.map op) s = .next t ∧ reg t = m.foldl upd (reg s) ∧
      t.rsp.getLast? = some (result (m.foldl upd (reg s))) := by
  induction m generalizing s with
  | nil => exact absurd rfl hm
  | cons b m ih =>
    obtain ⟨t, hexec, hidle', hreg, hrsp⟩ := hop s b hidle
    rw [List.map_cons, execSeq_cons_of_next hexec, List.foldl_cons, ← hreg]
    by_cases hnil : m = []
    · subst hnil
      exact ⟨t, rfl, rfl, by rw [hrsp, List.getLast?_concat, hreg]; rfl⟩
    · exact ih hnil hidle'

/-- Settles O28: a clear puts each engine at the start value of its `GEN`, and the updates fold over the bytes. -/
theorem streamedUpdatesEqualGenerate : Obligations.StreamedUpdatesEqualGenerate := by
  intro s m hidle hm
  have hanswered : ∀ {t : State} (r : Bytes), t.Idle → (t.answered r).Idle := fun _ h => (State.idle_congr rfl rfl rfl).2 h
  refine ⟨?_, ?_, ?_⟩
  · rw [execSeq_cons_of_next (exec_chk16Clr_of_idle hidle)]
    exact execSeq_updates (reg := State.chk16Acc) (upd := chk16Upd) (result := fun a => valueRsp (be16 a))
      (fun s b h => ⟨_, exec_chk16Upd_of_idle h b, hanswered _ h, rfl, rfl⟩) hm (hanswered _ hidle)
  · rw [execSeq_cons_of_next (exec_crc8Clr_of_idle hidle)]
    exact execSeq_updates (reg := State.crc8Reg) (upd := roll8) (result := fun a => valueRsp [a])
      (fun s b h => ⟨_, exec_crc8Upd_of_idle h b, hanswered _ h, rfl, rfl⟩) hm (hanswered _ hidle)
  · rw [execSeq_cons_of_next (exec_crc32Clr_of_idle hidle), ← crc32Raw_eq]
    exact execSeq_updates (reg := State.crc32Reg) (upd := upd32) (result := fun a => valueRsp (be32 (a ^^^ 0xFFFFFFFF)))
      (fun s b h => ⟨_, exec_crc32Upd_of_idle h b, hanswered _ h, rfl, rfl⟩) hm (hanswered _ hidle)

/-- Settles O29: both engines are evaluated bit step by bit step on each of the spec's inputs. -/
theorem crcCheckValues : Obligations.CrcCheckValues := by
  simp [Obligations.CrcCheckValues, crc8, roll8, roll8Steps, Config.crc8Init, Config.crc8Poly, crc32, crc32Result, crc32Raw,
    upd32, upd32Steps, Config.crc32Init, Config.crc32Poly, Config.crc32Xorout]

end Sys2Proof.Machine

/-! The escape codec's malformations, its operations, and the deframer's table (spec/42_pjon_escape.md R182 to R188). -/

namespace Sys2Proof.Machine

/-! Where decoding stops (R183). -/

theorem unescapeFrom_delimiter {x : Byte} (hx : isDelimiter x = true) (i : Nat) (rest : Bytes) :
    unescapeFrom i (x :: rest) = .error i := by
  cases rest with
  | nil => simp [unescapeFrom, isSpecial, hx]
  | cons c rest => simp [unescapeFrom, hx]

theorem unescapeFrom_esc_delimiter {x : Byte} (hx : isDelimiter x = true) (i : Nat) (rest : Bytes) :
    unescapeFrom i (0xBB :: x :: rest) = .error (i + 1) := by
  have hesc : isDelimiter 0xBB = false := by decide
  simp only [unescapeFrom, hesc, hx, Config.escByte, Bool.false_eq_true, if_false, if_true]

theorem unescapeFrom_esc_end (i : Nat) : unescapeFrom i [0xBB] = .error i := by
  have hspecial : isSpecial 0xBB = true := by decide
  simp only [unescapeFrom, hspecial, if_true]

/-- A malformation behind an escaped string stops decoding where it stands. -/
theorem unescape_escape_append_error {g e : Bytes} {i : Nat}
    (h : unescapeFrom (escape g).length e = .error i) : unescape (escape g ++ e) = .error i := by
  rw [unescape, unescapeFrom_escape_append, Nat.zero_add, h]
  rfl

/-- Settles O32: decoding runs through the escaped front and stops at each of the three malformations. -/
theorem unescapeStopsAtFirstMalformation : Obligations.UnescapeStopsAtFirstMalformation := by
  intro g rest x hx
  have hdelimiter := (isDelimiter_iff x).2 hx
  exact ⟨unescape_escape_append_error (unescapeFrom_delimiter hdelimiter _ rest),
    unescape_escape_append_error (unescapeFrom_esc_delimiter hdelimiter _ rest),
    unescape_escape_append_error (unescapeFrom_esc_end _)⟩

/-! The operations (R182, R184, R186). -/

section
variable {s : State}

theorem exec_escEnc_of_idle (h : s.Idle) (f : Bytes) :
    exec (.escEnc f) s = .next (s.whenLegal (s.stringLegal f) fun s => s.answered (valueRsp (escape f))) := by
  rw [show exec (.escEnc f) s = execEscEnc f s from rfl, execEscEnc, State.whenIdle_of_idle h]
  simp only [State.answer_value]

theorem exec_sfspWrap_of_idle (h : s.Idle) (f : Bytes) :
    exec (.sfspWrap f) s = .next (s.whenLegal (s.stringLegal f) fun s => s.answered (valueRsp (sfspWrap f))) := by
  rw [show exec (.sfspWrap f) s = execSfspWrap f s from rfl, execSfspWrap, State.whenIdle_of_idle h]
  simp only [State.answer_value]

theorem exec_escDec_of_ok (h : s.Idle) {e g : Bytes} (hg : unescape e = .ok g) :
    exec (.escDec e) s = .next (s.answered (valueRsp g)) := by
  rw [show exec (.escDec e) s = execEscDec e s from rfl, execEscDec, State.whenIdle_of_idle h]
  simp only [hg, State.answer_value]

theorem exec_escDec_of_error (h : s.Idle) {e : Bytes} {i : Nat} (hi : unescape e = .error i) :
    exec (.escDec e) s = .next (s.ended .malformedFrame (info16 i)) := by
  rw [show exec (.escDec e) s = execEscDec e s from rfl, execEscDec, State.whenIdle_of_idle h]
  simp only [hi, State.answer_err (State.inExchange_of_idle h)]

end

/-- Settles O31: a string within `MAXBUF` is encoded or wrapped, and decoding answers as the codec ends. -/
theorem escapeOperations : Obligations.EscapeOperations := by
  intro s f hidle
  refine ⟨fun hfit => ⟨?_, ?_⟩, fun g => exec_escDec_of_ok hidle, fun i => exec_escDec_of_error hidle⟩
  · rw [exec_escEnc_of_idle hidle, State.whenLegal_string_of_le hfit]
  · rw [exec_sfspWrap_of_idle hidle, State.whenLegal_string_of_le hfit]
    rfl

/-! The deframer (R188). -/

section
variable {s : State} {b : Byte}

theorem deframeByte_hunt (h : s.escState = .hunt) (hb : b ≠ 0x95) : deframeByte b s = (s, .nothing) := by
  simp only [deframeByte, Config.startByte, hb, if_false, h]

theorem deframeByte_escaped_end (h : s.escState = .escaped) :
    deframeByte 0xEA s = ({ s.clearRx with escState := .hunt }, .malformed (info16 s.rxbuf.length)) := by
  simp [deframeByte, h, Config.startByte, Config.endByte]

theorem deframeStore_of_full (h : s.params.maxbuf ≤ s.rxbuf.length) (d : Byte) :
    deframeStore d s = ({ s.clearRx with escState := .hunt }, .malformed (info16 s.params.maxbuf)) :=
  if_pos ((State.rxFull_iff s).2 h)

/-- The two rows that store a byte: copied in the body, XORed behind `ESC`. -/
theorem deframeByte_stores {d : Byte}
    (h : (s.escState = .body ∧ b ≠ 0x95 ∧ b ≠ 0xEA ∧ b ≠ 0xBB ∧ d = b) ∨
      (s.escState = .escaped ∧ b ≠ 0x95 ∧ b ≠ 0xEA ∧ d = b ^^^ 0xBB)) : deframeByte b s = deframeStore d s := by
  rcases h with ⟨hstate, hstart, hend, hesc, rfl⟩ | ⟨hstate, hstart, hend, rfl⟩
  · exact deframeByte_body_copy hstate hstart hend hesc
  · exact deframeByte_escaped_pair hstate hstart hend

theorem exec_sfspRxb_of_malformed (hidle : s.Idle) {t : State} {info : BitVec 16} (ht : t.Idle)
    (h : deframeByte b s = (t, .malformed info)) : exec (.sfspRxb b) s = .next (t.ended .malformedFrame info) := by
  rw [exec_sfspRxb, execSfspRxb, State.whenIdle_of_idle hidle, h]
  simp only [DeframeResult.toOpResult, State.answer_err (State.inExchange_of_idle ht)]

end

/-- Settles O33: the deframer's rows, each answered as its result. -/
theorem deframerTable : Obligations.DeframerTable := by
  intro s b hidle
  have hcleared : ({ s.clearRx with escState := .hunt } : State).Idle := (State.idle_congr rfl rfl rfl).2 hidle
  refine ⟨exec_sfspRxb_of_nothing hidle (deframeByte_start s),
    fun hhunt hb => exec_sfspRxb_of_nothing hidle (deframeByte_hunt hhunt hb),
    fun hbody => ⟨exec_sfspRxb_of_frame hidle (deframeByte_body_end hbody),
      exec_sfspRxb_of_nothing hidle (deframeByte_body_esc hbody)⟩,
    fun hescaped => exec_sfspRxb_of_malformed hidle hcleared (deframeByte_escaped_end hescaped),
    fun d hd => ⟨fun hroom => ?_, fun hfull => ?_⟩⟩
  · exact exec_sfspRxb_of_nothing hidle ((deframeByte_stores hd).trans (deframeStore_of_lt hroom d))
  · exact exec_sfspRxb_of_malformed hidle hcleared ((deframeByte_stores hd).trans (deframeStore_of_full hfull d))

end Sys2Proof.Machine

/-! Operands outside an operation's limits, resets, and an idle block's line input (spec/60_exceptions.md R384, R395,
spec/70_reset_and_hazards.md R420). -/

namespace Sys2Proof.Machine

section
variable {s : State}

theorem exec_recv_zero (h : s.Idle) (e : Option (BitVec 16)) :
    exec (.t9Recv 0 e) s = .next (s.ended .illegalOperand 0) ∧
      exec (.pjonRecv 0 e) s = .next (s.ended .illegalOperand 0) := by
  have hillegal : timeoutLegal 0 = false := by decide
  constructor
  · rw [exec_t9Recv, execT9Recv, State.whenIdle_of_idle h, hillegal, State.whenLegal_false, State.refuse_of_idle h]
  · rw [exec_pjonRecv, execPjonRecv, State.whenIdle_of_idle h, hillegal, State.whenLegal_false, State.refuse_of_idle h]

theorem exec_xchSend_of_illegal (h : s.Idle) {port ty : Byte} (hop : 9 < port.toNat ∨ ty.toNat ∉ [2, 3, 4, 22])
    (ad pa : BitVec 16) (e : Option (BitVec 16)) :
    exec (.xchSend port ty ad pa e) s = .next (s.ended .illegalOperand 0) := by
  rw [show exec (.xchSend port ty ad pa e) s = execXchSend port ty ad pa e s from rfl, execXchSend,
    State.whenIdle_of_idle h, State.whenLegal_packet_of_illegal h hop]

theorem exec_xchQuery_of_illegal (h : s.Idle) {port : Byte} (hport : 9 < port.toNat) (reg v : BitVec 16) :
    exec (.xchQuery port reg v) s = .next (s.ended .illegalOperand 0) := by
  rw [show exec (.xchQuery port reg v) s = execXchQuery port reg v s from rfl, execXchQuery,
    State.whenIdle_of_idle h, State.whenLegal_packet_of_illegal h (.inl hport)]

theorem exec_xchControl_of_illegal (h : s.Idle) {port : Byte} (hport : 9 < port.toNat) (reg v : BitVec 16) :
    exec (.xchControl port reg v) s = .next (s.ended .illegalOperand 0) := by
  rw [show exec (.xchControl port reg v) s = execXchControl port reg v s from rfl, execXchControl,
    State.whenIdle_of_idle h, State.whenLegal_packet_of_illegal h (.inl hport)]

end

/-- Settles O8: each operation's own limit, and the refusal behind it. -/
theorem illegalOperandsRefused : Obligations.IllegalOperandsRefused := by
  intro s hidle
  refine ⟨fun d hd => ⟨exec_chk16Gen_of_lt hidle hd, exec_crc8Gen_of_lt hidle hd, exec_crc32Gen_of_lt hidle hd, ?_, ?_⟩,
    fun d hd => ⟨exec_t9Build_of_misfit hidle hd, exec_t9Send_of_misfit hidle hd⟩,
    fun p hp => ⟨exec_pjonBuild_of_ge hidle hp, exec_pjonSend_of_ge hidle hp⟩, exec_recv_zero hidle,
    fun port ty ad pa e hop => ⟨exec_pktEnc_of_illegal hidle hop ad pa, exec_xchSend_of_illegal hidle hop ad pa e⟩,
    fun port reg v hport => ⟨exec_xchQuery_of_illegal hidle hport reg v, exec_xchControl_of_illegal hidle hport reg v⟩⟩
  · rw [exec_escEnc_of_idle hidle, State.whenLegal_string_of_lt hidle hd]
  · rw [exec_sfspWrap_of_idle hidle, State.whenLegal_string_of_lt hidle hd]

/-- Settles O9: `exec_reset` gives the whole next state, whose registers are those of `State.ofParams`. -/
theorem resetRestoresEveryRegister : Obligations.ResetRestoresEveryRegister := by
  refine ⟨rfl, fun s => ⟨_, exec_reset s, ?_⟩⟩
  and_intros <;> rfl

theorem step_powerOn {s : State} {p : Params} {rest : List Event} (hev : s.events = .powerOn p :: rest) :
    step s = if p.legal then .next (({ s with events := rest } : State).resetWith p)
      else .refused .illegalParameters := step_event hev

/-- Settles O10: the parameter set is legal or not. -/
theorem powerOnLoadsLegalParameters : Obligations.PowerOnLoadsLegalParameters := by
  intro s p rest hev
  rw [step_powerOn hev]
  refine ⟨fun heop htimeout hmax => ?_, fun hillegal => ?_⟩
  · rw [if_pos ((Params.legal_iff p).2 ⟨heop, htimeout, hmax⟩)]
    rfl
  · refine if_neg fun hlegal => ?_
    obtain ⟨heop, htimeout, hmax⟩ := (Params.legal_iff p).1 hlegal
    rcases hillegal with h | h | h
    exacts [heop h, htimeout h, absurd hmax (Nat.not_le.2 h)]

/-- Settles O11: the reset state is one state, of which every invariant is evaluated. -/
theorem resetStateMeetsInvariants : Obligations.ResetStateMeetsInvariants := by
  unfold Obligations.ResetStateMeetsInvariants
  decide

theorem onRxChar_of_off {s : State} (h : s.t9State = .off) (c : BitVec 11) :
    onRxChar c s = { s with rxq := s.rxq ++ [.char c] } := if_neg (not_not.2 h)

theorem onRxByte_of_off {s : State} (h : s.pjfRxstate = .off) (b : Byte) :
    onRxByte b s = { s with rxq := s.rxq ++ [.byte b] } := if_neg (by rw [h]; decide)

/-- Settles O44: no receive runs on an idle block, so line input is queued and a tick finds no timer. -/
theorem idleBlockQueuesInput : Obligations.IdleBlockQueuesInput := by
  intro s rest hidle
  have hrest : ({ s with events := rest } : State).Idle := (State.idle_withEvents s rest).2 hidle
  refine ⟨fun hev => ?_, fun c hev => ?_, fun b hev => ?_, step_none⟩
  · rw [step_tick hev, onTick_idle hrest]
  · rw [step_rxChar hev, onRxChar_of_off hrest.2.1]
  · rw [step_rxByte hev, onRxByte_of_off hrest.2.2]

end Sys2Proof.Machine

/-! Symbols and characters of the 9-bit line (spec/44_serial9.md R242 to R251). -/

namespace Sys2Proof.Machine

/-! The fields of a character are read back (R250, R251). -/

theorem getLsbD_symbolChar (a : Bool) (d : Byte) (i : Nat) :
    (symbolChar a d).getLsbD i = if i < 1 then false else if i < 9 then d.getLsbD (i - 1) else
      if i < 10 then a else decide (i = 10) := by
  rw [symbolChar_eq_append]
  rcases Nat.lt_or_ge i 10 with hi | hi
  · simp only [BitVec.getLsbD_append, BitVec.getLsbD_zero, BitVec.getLsbD_ofBool]
    grind
  · simp only [BitVec.getLsbD_append, BitVec.getLsbD_one]
    rw [if_neg (by omega), if_neg (by omega), if_neg (by omega), if_neg (by omega), if_neg (by omega), if_neg (by omega),
      show i - 1 - 8 - 1 = i - 10 by omega]
    simp only [Nat.lt_add_one, decide_true, Bool.true_and, decide_eq_decide]
    omega

@[simp] theorem charWellFormed_symbolChar (a : Bool) (d : Byte) : charWellFormed (symbolChar a d) = true := by
  simp only [charWellFormed, getLsbD_symbolChar]
  rfl

@[simp] theorem charTag_symbolChar (a : Bool) (d : Byte) : charTag (symbolChar a d) = a := by
  rw [charTag, getLsbD_symbolChar]
  rfl

@[simp] theorem charData_symbolChar (a : Bool) (d : Byte) : charData (symbolChar a d) = d := by
  refine BitVec.eq_of_getLsbD_eq fun i hi => ?_
  rw [charData, BitVec.getLsbD_extractLsb', getLsbD_symbolChar, if_neg (by omega), if_pos (by omega), decide_eq_true hi,
    Bool.true_and, Nat.add_sub_cancel_left]

/-- A start bit 0 and a stop bit 1 make a character that of a symbol. -/
theorem symbolChar_of_wellFormed {c : BitVec 11} (h : charWellFormed c = true) :
    c = symbolChar (charTag c) (charData c) := by
  rw [charWellFormed, Bool.and_eq_true, Bool.not_eq_true'] at h
  obtain ⟨hstart, hstop⟩ := h
  refine BitVec.eq_of_getLsbD_eq fun i hi => ?_
  rw [getLsbD_symbolChar, charTag, charData, BitVec.getLsbD_extractLsb']
  grind

theorem charWellFormed_eq_false {c : BitVec 11} (h : ∀ a d, c ≠ symbolChar a d) : charWellFormed c = false := by
  rw [← Bool.not_eq_true]
  exact fun hwell => h _ _ (symbolChar_of_wellFormed hwell)

section
variable {s : State}

theorem exec_s9Psel_of_idle (h : s.Idle) (a : Bool) (d : Byte) :
    exec (.s9Psel a d) s = .next (s.answered (valueRsp [(selectMode s.cfg.spacemark a d).code])) := by
  rw [show exec (.s9Psel a d) s = execS9Psel a d s from rfl, execS9Psel, State.whenIdle_of_idle h, State.answer_value]

theorem exec_s9Build_of_idle (h : s.Idle) (a : Bool) (d : Byte) :
    exec (.s9Build a d) s = .next (s.answered (valueRsp (be16 ((symbolChar a d).zeroExtend 16)))) := by
  rw [show exec (.s9Build a d) s = execS9Build a d s from rfl, execS9Build, State.whenIdle_of_idle h,
    State.answer_value, lineChar_selectMode]

theorem exec_s9Tx_of_idle (h : s.Idle) (a : Bool) (d : Byte) :
    exec (.s9Tx a d) s = .next ((s9Transmit a d s).answered voidRsp) := by
  rw [show exec (.s9Tx a d) s = execS9Tx a d s from rfl, execS9Tx, State.whenIdle_of_idle h, State.answer_void]

theorem exec_s9Parse_of_wellFormed (h : s.Idle) {c : BitVec 11} (hc : charWellFormed c = true) :
    exec (.s9Parse c) s = .next (s.answered (valueRsp (encodeSymbol (charTag c) (charData c)))) := by
  rw [show exec (.s9Parse c) s = execS9Parse c s from rfl, execS9Parse, State.whenIdle_of_idle h, if_pos hc,
    State.answer_value]

theorem exec_s9Parse_of_malformed (h : s.Idle) {c : BitVec 11} (hc : charWellFormed c = false) :
    exec (.s9Parse c) s = .next (s.setFerr.ended .malformedFrame (c.zeroExtend 16)) := by
  have hflagged : s.setFerr.Idle := (State.idle_congr rfl rfl rfl).2 h
  rw [show exec (.s9Parse c) s = execS9Parse c s from rfl, execS9Parse, State.whenIdle_of_idle h, hc,
    if_neg Bool.false_ne_true, State.answer_err (State.inExchange_of_idle hflagged)]

end

/-- Settles O46: the mode by realisation and natural parity; the character is that of the symbol in every mode. -/
theorem serialSymbolOperations : Obligations.SerialSymbolOperations := by
  intro s a d hidle
  refine ⟨fun hdirect => ?_, fun hemulated => ?_, exec_s9Build_of_idle hidle a d, ?_⟩
  · rw [exec_s9Psel_of_idle hidle, hdirect, selectMode_direct]
    cases a <;> rfl
  · rw [exec_s9Psel_of_idle hidle, hemulated]
    by_cases hparity : par8 d = a
    · rw [selectMode_emulated_of_eq hparity, if_pos hparity]
      rfl
    · rw [selectMode_emulated_of_ne hparity, if_neg hparity]
      rfl
  · rw [exec_s9Tx_of_idle hidle, s9Transmit_eq, lineChar_selectMode]

/-- Settles O47: the characters of `S9.BUILD` are the well-formed ones. -/
theorem serialParseInvertsBuild : Obligations.SerialParseInvertsBuild := by
  intro s hidle
  refine ⟨fun a d => ?_, fun c hc => exec_s9Parse_of_malformed hidle (charWellFormed_eq_false hc)⟩
  rw [exec_s9Parse_of_wellFormed hidle (charWellFormed_symbolChar a d), charTag_symbolChar, charData_symbolChar]
  cases a <;> rfl

end Sys2Proof.Machine

/-! The verdict of a parse: the checks of spec/43_pjon_frame.md R207 against `pjonVerdict`, which writes them out. -/

namespace Sys2Proof.Machine

/-! The trailing bytes of a frame. -/

theorem drop_length_sub_one {f : Bytes} (h : 1 ≤ f.length) : f.drop (f.length - 1) = [f.getD (f.length - 1) 0] := by
  have hi : f.length - 1 < f.length := by omega
  rw [List.drop_eq_getElem_cons hi, List.drop_eq_nil_of_le (by omega), List.getD_eq_getElem _ _ hi]

theorem drop_length_sub_four {f : Bytes} (h : 4 ≤ f.length) : f.drop (f.length - 4) = be32 (trailer32 f) := by
  have h4 : (f.drop (f.length - 4)).length = 4 := by rw [List.length_drop]; omega
  obtain ⟨a, b, c, d, hd⟩ : ∃ a b c d, f.drop (f.length - 4) = [a, b, c, d] := by
    match hm : f.drop (f.length - 4) with
    | [a, b, c, d] => exact ⟨a, b, c, d, rfl⟩
    | [] | [_] | [_, _] | [_, _, _] | _ :: _ :: _ :: _ :: _ :: _ => simp [hm] at h4
  have hf : f = f.take (f.length - 4) ++ be32 (u32be a b c d) := by
    rw [be32_u32be, ← hd, List.take_append_drop]
  rw [hd, hf, trailer32_append_be32, be32_u32be]

theorem be32_injective : Function.Injective be32 := fun v w h => by
  rw [← trailer32_append_be32 [] v, h, trailer32_append_be32]

/-! What each header selects. -/

theorem hdrSelectsCrc32_eq_false {hdr : Byte} (h : hdrRefused hdr = false) :
    hdrSelectsCrc32 hdr = false ↔ hdr = 0x02 := by
  rcases (hdrRefused_iff hdr).1 h with rfl | rfl <;> decide

theorem hdrSelectsCrc32_eq_true {hdr : Byte} (h : hdrRefused hdr = false) :
    hdrSelectsCrc32 hdr = true ↔ hdr = 0x22 := by
  rcases (hdrRefused_iff hdr).1 h with rfl | rfl <;> decide

/-- Checks 7 and 8 for a header that selects CRC8 (R212, R213). -/
theorem pjonParsePayload_crc8 {f : Bytes} (h : hdrSelectsCrc32 (f.getD 1 0) = false) (s : State) :
    pjonParsePayload f s = if crc8 (f.take (f.length - 1)) ≠ f.getD (f.length - 1) 0 then
      ({ s with crc8Reg := crc8 (f.take (f.length - 1)) },
        .err .payloadCrcMismatch ((crc8 (f.take (f.length - 1))).zeroExtend 16))
      else pjonTakePayload f 1 { s with crc8Reg := crc8 (f.take (f.length - 1)) } :=
  if_neg (by rw [h]; decide)

/-- Checks 7 and 8 for a header that selects CRC32. -/
theorem pjonParsePayload_crc32 {f : Bytes} (h : hdrSelectsCrc32 (f.getD 1 0) = true) (s : State) :
    pjonParsePayload f s = if crc32 (f.take (f.length - 4)) ≠ trailer32 f then
      ({ s with crc32Reg := crc32Raw (f.take (f.length - 4)) },
        .err .payloadCrcMismatch ((crc32 (f.take (f.length - 4))).truncate 16))
      else pjonTakePayload f 4 { s with crc32Reg := crc32Raw (f.take (f.length - 4)) } :=
  if_pos h

/-- What a parse of `f` from `s` reports as `v`: the payload, with `PJF.HDR` and `PJF.SENDER` those of the frame, or the
error, after which `PJF.SENDER` is that of before unless the frame carried a remote error (R207; log entry 9). -/
def ReportsVerdict (f : Bytes) (s : State) (v : State × OpResult) : Option (ErrKind × BitVec 16) → Prop
  | none => pjonFrameOk s.cfg.deviceId f = true ∧ ∃ (c8 : Byte) (c32 : BitVec 32), v = ({ s with
      pjfHdr := f.getD 1 0, pjfSender := f.getD 4 0, pjfSenderValid := true, crc8Reg := c8, crc32Reg := c32 },
      .value (pjonPayload f))
  | some (k, info) => k ≠ .none ∧ v.2 = .err k info ∧ (k = .remoteError → v.1.pjfSenderValid = false) ∧
      (k ≠ .remoteError → v.1.pjfSender = s.pjfSender ∧ v.1.pjfSenderValid = s.pjfSenderValid)

theorem ReportsVerdict.of_error {f : Bytes} {s t : State} {k : ErrKind} {info : BitVec 16} (hk : k ≠ .none)
    (hremote : k ≠ .remoteError) (hsender : t.pjfSender = s.pjfSender) (hvalid : t.pjfSenderValid = s.pjfSenderValid) :
    ReportsVerdict f s (t, .err k info) (some (k, info)) :=
  ⟨hk, rfl, fun h => absurd h hremote, fun _ => ⟨hsender, hvalid⟩⟩

/-- Check 8 in front of a trailing CRC of `k` bytes (R213). -/
theorem pjonTakePayload_reports {f : Bytes} {s : State} {k : Nat} {c8 : Byte} {c32 : BitVec 32}
    (hk : (if f.getD 1 0 = 0x22 then 4 else 1) = k) (hok : pjonFrameOk s.cfg.deviceId f = true) :
    ReportsVerdict f s
      (pjonTakePayload f k { s with pjfHdr := f.getD 1 0, crc8Reg := c8, crc32Reg := c32 })
      (if (pjonPayload f).length = 1 ∧ pjonPayload f ≠ [0] then
        some (.remoteError, ((pjonPayload f).getD 0 0).zeroExtend 16) else none) := by
  have hpayload : pjonPayload f = (f.take (f.length - k)).drop 5 := by rw [pjonPayload, hk]
  rcases pjonTakePayload_cases f k { s with pjfHdr := f.getD 1 0, crc8Reg := c8, crc32Reg := c32 } with
    ⟨p, hp, hdata, he⟩ | ⟨b, hb, hp, he⟩
  · rw [he, hp, ← hpayload, if_neg]
    · exact ⟨hok, c8, c32, rfl⟩
    · rw [hp, ← hpayload] at hdata
      rintro ⟨hone, hzero⟩
      obtain ⟨b, hb⟩ := List.length_eq_one_iff.1 hone
      rw [hb] at hdata hzero
      exact hdata ⟨rfl, fun h => hzero (by rw [show b = 0 from h])⟩
  · rw [he, hpayload, hp, if_pos ⟨rfl, by simpa using hb⟩]
    exact ⟨by decide, rfl, fun _ => rfl, fun h => absurd rfl h⟩

section
variable {f : Bytes} {id : Byte}

/-- The verdict on a frame whose head passes the checks 1 to 6, under CRC8. -/
theorem pjonVerdict_crc8 (h6 : 6 ≤ f.length) (hid : ¬ (f.getD 0 0 ≠ id ∧ f.getD 0 0 ≠ 0x00)) (hhdr : f.getD 1 0 = 0x02)
    (hcrc : crc8 (f.take 3) = f.getD 3 0) (hlen : (f.getD 2 0).toNat = f.length) (h15 : f.length ≤ 15) :
    pjonVerdict id f = if crc8 (f.take (f.length - 1)) ≠ f.getD (f.length - 1) 0 then
        some (.payloadCrcMismatch, (crc8 (f.take (f.length - 1))).zeroExtend 16)
      else if (pjonPayload f).length = 1 ∧ pjonPayload f ≠ [0] then
        some (.remoteError, ((pjonPayload f).getD 0 0).zeroExtend 16) else none := by
  have hlast : f.drop (f.length - 1) ≠ [crc8 (f.take (f.length - 1))] ↔
      crc8 (f.take (f.length - 1)) ≠ f.getD (f.length - 1) 0 := by
    rw [drop_length_sub_one (by omega), Ne, Ne, List.singleton_inj, eq_comm]
  have h22 : (0x02 : Byte) ≠ 0x22 := by decide
  simp only [pjonVerdict, pjonPayload, hhdr, h22, hcrc, hlen, hlast, if_neg hid, Nat.not_lt.2 h6, Nat.not_lt.2 h15, ne_eq,
    not_true_eq_false, false_and, and_false, true_and, if_false]

/-- The verdict on a frame whose head passes the checks 1 to 6, under CRC32. -/
theorem pjonVerdict_crc32 (hid : ¬ (f.getD 0 0 ≠ id ∧ f.getD 0 0 ≠ 0x00))
    (hhdr : f.getD 1 0 = 0x22) (hcrc : crc8 (f.take 3) = f.getD 3 0) (hlen : (f.getD 2 0).toNat = f.length)
    (h9 : 9 ≤ f.length) :
    pjonVerdict id f = if crc32 (f.take (f.length - 4)) ≠ trailer32 f then
        some (.payloadCrcMismatch, (crc32 (f.take (f.length - 4))).truncate 16)
      else if (pjonPayload f).length = 1 ∧ pjonPayload f ≠ [0] then
        some (.remoteError, ((pjonPayload f).getD 0 0).zeroExtend 16) else none := by
  have hlast : f.drop (f.length - 4) ≠ be32 (crc32 (f.take (f.length - 4))) ↔
      crc32 (f.take (f.length - 4)) ≠ trailer32 f := by
    rw [drop_length_sub_four (by omega), Ne, Ne, be32_injective.eq_iff, eq_comm]
  have h02 : (0x22 : Byte) ≠ 0x02 := by decide
  simp only [pjonVerdict, pjonPayload, hhdr, h02, hcrc, hlen, hlast, if_neg hid, Nat.not_lt.2 h9, ne_eq,
    Nat.not_lt.2 (Nat.le_trans (by decide : 6 ≤ 9) h9), not_true_eq_false, false_and, and_false, true_and, if_false, if_true]

theorem pjonFrameOk_crc8 (h6 : 6 ≤ f.length) (hid : ¬ (f.getD 0 0 ≠ id ∧ f.getD 0 0 ≠ 0x00)) (hhdr : f.getD 1 0 = 0x02)
    (hcrc : crc8 (f.take 3) = f.getD 3 0) (hlen : (f.getD 2 0).toNat = f.length) (h15 : f.length ≤ 15)
    (htrailer : crc8 (f.take (f.length - 1)) = f.getD (f.length - 1) 0) : pjonFrameOk id f = true := by
  have htarget : (f.getD 0 0 == id || f.getD 0 0 == 0x00) = true := by
    rw [Bool.or_eq_true, beq_iff_eq, beq_iff_eq]
    exact (not_and_or.1 hid).imp not_not.1 not_not.1
  have h22 : (0x02 : Byte) ≠ 0x22 := by decide
  simp only [pjonFrameOk, htarget, hhdr, hcrc, hlen, htrailer, h6, h15, if_neg h22, beq_self_eq_true, decide_true,
    Bool.true_or, Bool.and_self]

theorem pjonFrameOk_crc32 (hid : ¬ (f.getD 0 0 ≠ id ∧ f.getD 0 0 ≠ 0x00)) (hhdr : f.getD 1 0 = 0x22)
    (hcrc : crc8 (f.take 3) = f.getD 3 0) (hlen : (f.getD 2 0).toNat = f.length) (h9 : 9 ≤ f.length)
    (htrailer : crc32 (f.take (f.length - 4)) = trailer32 f) : pjonFrameOk id f = true := by
  have htarget : (f.getD 0 0 == id || f.getD 0 0 == 0x00) = true := by
    rw [Bool.or_eq_true, beq_iff_eq, beq_iff_eq]
    exact (not_and_or.1 hid).imp not_not.1 not_not.1
  have h6 : 6 ≤ f.length := by omega
  simp only [pjonFrameOk, htarget, hhdr, hcrc, hlen, htrailer, h6, h9, drop_length_sub_four (show 4 ≤ f.length by omega),
    if_true, beq_self_eq_true, decide_true, Bool.or_true, Bool.and_self]

end

/-- A parse reports the verdict of R207. -/
theorem pjonParse_reports (f : Bytes) (s : State) :
    ReportsVerdict f s (pjonParse f s) (pjonVerdict s.cfg.deviceId f) := by
  rcases pjonParse_cases f s with ⟨h1, he⟩ | ⟨h6, hid, he⟩ | ⟨h6, hid, hhdr, he⟩ | ⟨h6, hid, hhdr, hchecks⟩
  · rw [he, show pjonVerdict s.cfg.deviceId f = _ from if_pos h1]
    exact .of_error (by decide) (by decide) rfl rfl
  · rw [he, show pjonVerdict s.cfg.deviceId f = _ from (if_neg (Nat.not_lt.2 h6)).trans (if_pos hid)]
    exact .of_error (by decide) (by decide) rfl rfl
  · have hunsupported : f.getD 1 0 ≠ 0x02 ∧ f.getD 1 0 ≠ 0x22 := by
      rw [← not_or, ← hdrRefused_iff, hhdr]
      decide
    rw [he, show pjonVerdict s.cfg.deviceId f = _ from
      (if_neg (Nat.not_lt.2 h6)).trans ((if_neg hid).trans (if_pos hunsupported))]
    exact .of_error (by decide) (by decide) rfl rfl
  have hsupported : ¬ (f.getD 1 0 ≠ 0x02 ∧ f.getD 1 0 ≠ 0x22) := by
    rw [← not_or, not_not, ← hdrRefused_iff, hhdr]
  have hto3 {v : Option (ErrKind × BitVec 16)} (h : _ = v) : pjonVerdict s.cfg.deviceId f = v :=
    (if_neg (Nat.not_lt.2 h6)).trans ((if_neg hid).trans ((if_neg hsupported).trans h))
  rcases hchecks with ⟨hcrc, he⟩ | ⟨hcrc, hlen, he⟩ | ⟨hcrc, hlen, hselect, hlong, he⟩ | ⟨hcrc, hlen, hselect, hshort, he⟩ |
    ⟨hcrc, hlen, hcrc8, hcrc32, he⟩
  · rw [he, hto3 (if_pos hcrc)]
    exact .of_error (by decide) (by decide) rfl rfl
  · rw [he, hto3 ((if_neg (not_not.2 hcrc)).trans (if_pos hlen))]
    exact .of_error (by decide) (by decide) rfl rfl
  · rw [he, hto3 ((if_neg (not_not.2 hcrc)).trans ((if_neg (not_not.2 hlen)).trans
      (if_pos ⟨(hdrSelectsCrc32_eq_false hhdr).1 hselect, hlong⟩)))]
    exact .of_error (by decide) (by decide) rfl rfl
  · have h22 := (hdrSelectsCrc32_eq_true hhdr).1 hselect
    rw [he, hto3 ((if_neg (not_not.2 hcrc)).trans ((if_neg (not_not.2 hlen)).trans
      ((if_neg (show ¬ (f.getD 1 0 = 0x02 ∧ 15 < f.length) by omega)).trans (if_pos ⟨h22, hshort⟩))))]
    exact .of_error (by decide) (by decide) rfl rfl
  · rw [he]
    cases hselect : hdrSelectsCrc32 (f.getD 1 0) with
    | false =>
      have h02 := (hdrSelectsCrc32_eq_false hhdr).1 hselect
      rw [pjonParsePayload_crc8 hselect, pjonVerdict_crc8 h6 hid h02 hcrc hlen (hcrc8 hselect)]
      by_cases htrailer : crc8 (f.take (f.length - 1)) ≠ f.getD (f.length - 1) 0
      · rw [if_pos htrailer, if_pos htrailer]
        exact .of_error (by decide) (by decide) rfl rfl
      · rw [if_neg htrailer, if_neg htrailer]
        have h22 : (0x02 : Byte) ≠ 0x22 := by decide
        exact pjonTakePayload_reports (by rw [h02, if_neg h22])
          (pjonFrameOk_crc8 h6 hid h02 hcrc hlen (hcrc8 hselect) (not_not.1 htrailer))
    | true =>
      have h22 := (hdrSelectsCrc32_eq_true hhdr).1 hselect
      rw [pjonParsePayload_crc32 hselect, pjonVerdict_crc32 hid h22 hcrc hlen (hcrc32 hselect)]
      by_cases htrailer : crc32 (f.take (f.length - 4)) ≠ trailer32 f
      · rw [if_pos htrailer, if_pos htrailer]
        exact .of_error (by decide) (by decide) rfl rfl
      · rw [if_neg htrailer, if_neg htrailer]
        exact pjonTakePayload_reports (by rw [h22, if_pos rfl])
          (pjonFrameOk_crc32 hid h22 hcrc hlen (hcrc32 hselect) (not_not.1 htrailer))

/-! The two ways a verdict reads. -/

section
variable {f : Bytes} {s : State}

theorem pjonParse_of_verdict_none (h : pjonVerdict s.cfg.deviceId f = none) :
    pjonFrameOk s.cfg.deviceId f = true ∧ ∃ (c8 : Byte) (c32 : BitVec 32), pjonParse f s = ({ s with
      pjfHdr := f.getD 1 0, pjfSender := f.getD 4 0, pjfSenderValid := true, crc8Reg := c8, crc32Reg := c32 },
      .value (pjonPayload f)) := by
  have hreport := pjonParse_reports f s
  rwa [h] at hreport

theorem pjonParse_of_verdict_some {k : ErrKind} {info : BitVec 16} (h : pjonVerdict s.cfg.deviceId f = some (k, info)) :
    k ≠ .none ∧ (pjonParse f s).2 = .err k info ∧ (k = .remoteError → (pjonParse f s).1.pjfSenderValid = false) ∧
      (k ≠ .remoteError → (pjonParse f s).1.pjfSender = s.pjfSender ∧
        (pjonParse f s).1.pjfSenderValid = s.pjfSenderValid) := by
  have hreport := pjonParse_reports f s
  rwa [h] at hreport

/-- The parse of an idle block is still idle. -/
theorem pjonParse_idle (h : s.Idle) (f : Bytes) : (pjonParse f s).1.Idle := by
  obtain ⟨hdr, c8, c32, snd, v, he, _⟩ := pjonParse_frame f s
  rw [he]
  exact (State.idle_congr rfl rfl rfl).2 h

theorem exec_pjonParse_of_verdict_none (hidle : s.Idle) (h : pjonVerdict s.cfg.deviceId f = none) :
    exec (.pjonParse f) s = .next ((pjonParse f s).1.answered (valueRsp (pjonPayload f))) := by
  obtain ⟨_, c8, c32, he⟩ := pjonParse_of_verdict_none h
  rw [exec_pjonParse_of_idle hidle, he, State.answer_value]

theorem exec_pjonParse_of_verdict_some (hidle : s.Idle) {k : ErrKind} {info : BitVec 16}
    (h : pjonVerdict s.cfg.deviceId f = some (k, info)) :
    exec (.pjonParse f) s = .next ((pjonParse f s).1.ended k info) := by
  obtain ⟨_, he, _⟩ := pjonParse_of_verdict_some h
  rw [exec_pjonParse_of_idle hidle, he, State.answer_err (State.inExchange_of_idle (pjonParse_idle hidle f))]

theorem pjonParse_rsp (f : Bytes) (s : State) : (pjonParse f s).1.rsp = s.rsp := by
  obtain ⟨hdr, c8, c32, snd, v, he, _⟩ := pjonParse_frame f s
  rw [he]

end

/-- Settles O38: a parse reports the verdict, and its answer is what it reports. -/
theorem pjonParseVerdict : Obligations.PjonParseVerdict := by
  intro s f hidle
  cases hv : pjonVerdict s.cfg.deviceId f with
  | none =>
    exact ⟨_, exec_pjonParse_of_verdict_none hidle hv, rfl, rfl, congrArg (· ++ _) (pjonParse_rsp f s)⟩
  | some v =>
    obtain ⟨k, info⟩ := v
    exact ⟨_, exec_pjonParse_of_verdict_some hidle hv, rfl, rfl, congrArg (· ++ _) (pjonParse_rsp f s)⟩

/-- Settles O39: only the verdict without an error clears `ERR.KIND`, and a parse writes the registers of
`pjonParse_frame`. -/
theorem pjonParseReturnsOnlyCheckedFrames : Obligations.PjonParseReturnsOnlyCheckedFrames := by
  intro s f hidle
  cases hv : pjonVerdict s.cfg.deviceId f with
  | none =>
    obtain ⟨hok, c8, c32, he⟩ := pjonParse_of_verdict_none hv
    refine ⟨_, exec_pjonParse_of_verdict_none hidle hv, fun _ => ⟨rfl, hok, ?_⟩, ?_⟩
    · rw [he]
      exact ⟨rfl, rfl, rfl⟩
    · rw [he]
      rfl
  | some v =>
    obtain ⟨k, info⟩ := v
    obtain ⟨hk, _⟩ := pjonParse_of_verdict_some hv
    obtain ⟨hdr, c8, c32, snd, valid, he, _⟩ := pjonParse_frame f s
    refine ⟨_, exec_pjonParse_of_verdict_some hidle hv, fun h => absurd h hk, ?_⟩
    rw [he]
    rfl

/-! A frame that a peer built passes every check (R201 to R203, R207). -/

section
variable {target sender : Byte} {p : Bytes}

theorem pjonFrame_short (h : p.length ≤ 9) : pjonFrame target sender p =
    target :: 0x02 :: BitVec.ofNat 8 (p.length + 6) :: crc8 (pjonHead target p) :: sender ::
      (p ++ [crc8 (pjonBody target sender p)]) := by
  rw [pjonFrame_of_le h, pjonBody_eq_append, pjonHead_of_le h]
  rfl

theorem pjonFrame_long (h : 10 ≤ p.length) : pjonFrame target sender p =
    target :: 0x22 :: BitVec.ofNat 8 (p.length + 9) :: crc8 (pjonHead target p) :: sender ::
      (p ++ be32 (crc32 (pjonBody target sender p))) := by
  rw [pjonFrame_of_ge h, pjonBody_eq_append, pjonHead_of_ge h]
  rfl

theorem pjonFrame_getD_sender : (pjonFrame target sender p).getD 4 0 = sender := by
  rcases Nat.lt_or_ge p.length 10 with h | h
  · rw [pjonFrame_short (by omega)]
    rfl
  · rw [pjonFrame_long h]
    rfl

theorem pjonFrame_getD_hdr : (pjonFrame target sender p).getD 1 0 = if p.length ≤ 9 then 0x02 else 0x22 := by
  rcases Nat.lt_or_ge p.length 10 with h | h
  · rw [pjonFrame_short (by omega), if_pos (by omega)]
    rfl
  · rw [pjonFrame_long h, if_neg (by omega)]
    rfl

theorem pjonFrame_take_three (target sender : Byte) (p : Bytes) :
    (pjonFrame target sender p).take 3 = pjonHead target p := by
  rw [pjonFrame, pjonBody, List.append_assoc, List.take_left' (pjonHead_length target p)]

theorem pjonBody_drop_five (target sender : Byte) (p : Bytes) : (pjonBody target sender p).drop 5 = p := by
  rw [pjonBody_eq_append]
  exact List.drop_left' (by rw [List.length_append, pjonHead_length]; rfl)

theorem pjonFrame_take_of_le (h : p.length ≤ 9) :
    (pjonFrame target sender p).take ((pjonFrame target sender p).length - 1) = pjonBody target sender p := by
  rw [pjonFrame_of_le h, List.length_append, List.length_singleton, Nat.add_sub_cancel, List.take_left]

theorem pjonFrame_take_of_ge (h : 10 ≤ p.length) :
    (pjonFrame target sender p).take ((pjonFrame target sender p).length - 4) = pjonBody target sender p := by
  rw [pjonFrame_of_ge h, List.length_append, be32_length, Nat.add_sub_cancel, List.take_left]

theorem pjonPayload_pjonFrame (target sender : Byte) (p : Bytes) : pjonPayload (pjonFrame target sender p) = p := by
  rw [pjonPayload, pjonFrame_getD_hdr]
  rcases Nat.lt_or_ge p.length 10 with h | h
  · rw [if_pos (show p.length ≤ 9 by omega), if_neg (by decide), pjonFrame_take_of_le (by omega), pjonBody_drop_five]
  · rw [if_neg (show ¬ p.length ≤ 9 by omega), if_pos rfl, pjonFrame_take_of_ge h, pjonBody_drop_five]

theorem pjonVerdict_pjonFrame {id : Byte} (hp : p.length ≤ 246) (htarget : target = id ∨ target = 0x00)
    (hdata : ∀ b : Byte, p = [b] → b = 0) : pjonVerdict id (pjonFrame target sender p) = none := by
  have hremote : ¬ (p.length = 1 ∧ p ≠ [0]) := by
    rintro ⟨hone, hzero⟩
    obtain ⟨b, hb⟩ := List.length_eq_one_iff.1 hone
    exact hzero (hb.trans (congrArg ([·]) (hdata b hb)))
  have hid : ¬ (target ≠ id ∧ target ≠ 0x00) := fun h => htarget.elim h.1 h.2
  rcases Nat.lt_or_ge p.length 10 with h | h
  · have hframe := pjonFrame_short (target := target) (sender := sender) (show p.length ≤ 9 by omega)
    have hlen : (pjonFrame target sender p).length = p.length + 6 := by
      rw [hframe]
      simp
    rw [pjonVerdict_crc8 (by omega) (by rwa [hframe]) (by rw [hframe]; rfl)
        (by rw [pjonFrame_take_three, hframe]; rfl) ?_ (by omega), pjonFrame_take_of_le (by omega),
      pjonPayload_pjonFrame, if_neg, if_neg hremote]
    · rw [not_not, hlen, pjonFrame_of_le (by omega)]
      simp [pjonBody_length]
    · rw [hlen, hframe]
      simp; omega
  · have hframe := pjonFrame_long (target := target) (sender := sender) h
    have hlen : (pjonFrame target sender p).length = p.length + 9 := by
      rw [hframe]
      simp
    rw [pjonVerdict_crc32 (by rwa [hframe]) (by rw [hframe]; rfl)
        (by rw [pjonFrame_take_three, hframe]; rfl) ?_ (by omega), pjonFrame_take_of_ge h,
      pjonPayload_pjonFrame, if_neg, if_neg hremote]
    · rw [not_not, pjonFrame_of_ge h, trailer32_append_be32]
    · rw [hlen, hframe]
      simp; omega

end

/-- Settles O37: the frame passes every check, and its payload is that of the peer. -/
theorem pjonParseRecoversBuiltFrame : Obligations.PjonParseRecoversBuiltFrame := by
  intro s target sender p hidle hp htarget hdata
  have hv := pjonVerdict_pjonFrame (sender := sender) hp htarget hdata
  obtain ⟨_, c8, c32, he⟩ := pjonParse_of_verdict_none hv
  refine ⟨_, c8, c32, rfl, ?_⟩
  rw [exec_pjonParse_of_verdict_none hidle hv, he, pjonPayload_pjonFrame, pjonFrame_getD_sender, pjonFrame_getD_hdr]

end Sys2Proof.Machine

/-! How a receive goes on or ends at one event, inside an exchange and by itself (spec/43_pjon_frame.md R214,
spec/45_transport9.md R276 to R281, spec/47_exchange.md R329 to R332). -/

namespace Sys2Proof.Machine

/-! The validation of a response (R329 to R332). -/

section
variable {s : State}

theorem receiveEnded_value (h : s.xchState = .awaitingResponse) (r : Bytes) :
    receiveEnded (s, some (.value r)) = xchValidate r s := by
  rw [receiveEnded_exchange h, xchSettle_value]

theorem xchValidate_of_err {r : Bytes} {k : ErrKind} {info : BitVec 16} (hr : pktResponse r = .err k info) (s : State) :
    xchValidate r s =
      ({ s with xchState := .failed, xchLasterr := some (k, info) } : State).ended k info := by
  unfold xchValidate
  rw [hr]
  exact xchFail_eq k info { s with xchState := .validating }

theorem xchValidate_of_value {r p : Bytes} (hr : pktResponse r = .value p) (s : State) :
    xchValidate r s = ({ s with xchResp := p, xchState := .done } : State).answer (xchPayloadResult s.xchOp p) := by
  unfold xchValidate
  rw [hr]

theorem pktResponse_of_rejected {st : Byte} {p : Bytes} (hp : p ≠ []) (hst : 128 ≤ st.toNat) :
    pktResponse (st :: p) = .err .invalidCommandAck (BitVec.ofNat 16 (st.toNat - 128)) := by
  rw [pktResponse_cons hp, if_pos hst]

theorem pktResponse_of_accepted {st : Byte} {p : Bytes} (hp : p ≠ []) (hst : st.toNat < 128) :
    pktResponse (st :: p) = .value p := by
  rw [pktResponse_cons hp, if_neg (Nat.not_le.2 hst)]

theorem pktValue_of_length {p : Bytes} (h : p.length = 2) : pktValue p = .value p := by
  obtain ⟨b, c, rfl⟩ := List.length_eq_two.1 h
  exact pktValue_pair b c

end

/-- Settles O55: the outcome goes to the validation, which follows `pktResponse`; the answer is that of the operation. -/
theorem exchangeValidatesResponse : Obligations.ExchangeValidatesResponse := by
  intro s hawait
  refine ⟨fun r hr => ?_, fun st p hp => ⟨fun hst => ?_, fun hst => ?_⟩⟩
  · rw [receiveEnded_value hawait, xchValidate_of_err (pktResponse_of_short hr)]
    rfl
  · rw [receiveEnded_value hawait, xchValidate_of_err (pktResponse_of_rejected hp hst)]
  · rw [receiveEnded_value hawait, xchValidate_of_value (pktResponse_of_accepted hp hst)]
    refine ⟨fun hop => ?_, fun hop => ?_, fun hop hlen => ?_, fun hop hlen => ?_⟩ <;> rw [hop, xchPayloadResult]
    · exact State.answer_value _ _
    · exact State.answer_void _
    · rw [pktValue_of_length hlen]
      exact State.answer_value _ _
    · rw [pktValue_of_length_ne hlen]
      exact State.answer_err rfl _ _

/-! One character or tick of a 9-bit receive (R276 to R281). -/

section
variable {s : State}

theorem t9Char_symbol_of_lt (h : s.rxbuf.length < s.params.maxbuf) (a : Bool) (d : Byte) :
    t9Char (symbolChar a d) s = { s with
      rxbuf := s.rxbuf ++ [d], rxtag := s.rxtag ++ [a], rxbufValid := false
      t9State := .collect, t9Timer := s.cfg.eopIdle } := by
  rcases t9Char_cases (symbolChar a d) s with ⟨hc, -⟩ | ⟨-, -, he⟩ | ⟨-, hfull, -⟩
  · rw [charWellFormed_symbolChar] at hc
    cases hc
  · rw [he, charData_symbolChar, charTag_symbolChar]
  · exact absurd h (Nat.not_lt.2 hfull)

theorem t9Char_symbol_of_full (h : s.params.maxbuf ≤ s.rxbuf.length) (a : Bool) (d : Byte) :
    t9Char (symbolChar a d) s = { s with t9Ovf := true, t9State := .collect, t9Timer := s.cfg.eopIdle } := by
  rcases t9Char_cases (symbolChar a d) s with ⟨hc, -⟩ | ⟨-, hroom, -⟩ | ⟨-, -, he⟩
  · rw [charWellFormed_symbolChar] at hc
    cases hc
  · exact absurd hroom (Nat.not_lt.2 h)
  · exact he

theorem t9Char_of_malformed {c : BitVec 11} (h : charWellFormed c = false) (s : State) :
    t9Char c s = { s with s9Ferr := true } := by
  rcases t9Char_cases c s with ⟨-, he⟩ | ⟨hc, -⟩ | ⟨hc, -⟩
  · exact he
  · rw [h] at hc
    cases hc
  · rw [h] at hc
    cases hc

theorem BitVec.sub_one_eq_zero_iff {w : Nat} (x : BitVec w) : x - 1 = 0 ↔ x = 1 := by
  rw [BitVec.sub_eq_iff_eq_add, eq_comm (a := x), eq_comm (a := x)]
  exact ⟨fun h => (BitVec.zero_add 1).symm.trans h, fun h => (BitVec.zero_add 1).trans h⟩

theorem t9Tick_of_ne_one (h : s.t9Timer ≠ 1) : t9Tick s = ({ s with t9Timer := s.t9Timer - 1 }, none) := by
  rw [Ne, ← BitVec.sub_one_eq_zero_iff] at h
  exact (t9Tick_cases s).elim And.right fun hend => absurd (hend.elim And.left (Or.elim · And.left And.left)) h

theorem t9Tick_waitFirst (h : s.t9Timer = 1) (hwait : s.t9State = .waitFirst) :
    t9Tick s = ({ s with t9Timer := 0, t9State := .off }, some .noValue) := by
  rw [← BitVec.sub_one_eq_zero_iff] at h
  rcases t9Tick_cases s with ⟨hne, -⟩ | ⟨-, hoff, -⟩ | ⟨-, -, he⟩ | ⟨-, hcollect, -⟩
  · exact absurd h hne
  · rw [hwait] at hoff; cases hoff
  · exact he
  · rw [hwait] at hcollect; cases hcollect

theorem t9Tick_collect (h : s.t9Timer = 1) (hcollect : s.t9State = .collect) :
    t9Tick s = ((t9Finish { s with t9Timer := 0, t9State := .off }).1,
      some (t9Finish { s with t9Timer := 0, t9State := .off }).2) := by
  rw [← BitVec.sub_one_eq_zero_iff] at h
  rcases t9Tick_cases s with ⟨hne, -⟩ | ⟨-, hoff, -⟩ | ⟨-, hwait, -⟩ | ⟨-, -, he⟩
  · exact absurd h hne
  · rw [hcollect] at hoff; cases hoff
  · rw [hcollect] at hwait; cases hwait
  · exact he

/-- The states an exchange is in between its runs are not the awaiting one. -/
theorem State.not_awaiting_of_resting (h : s.xchState = .idle ∨ s.xchState = .done ∨ s.xchState = .failed) :
    s.xchState ≠ .awaitingResponse := by
  rcases h with h | h | h <;> rw [h] <;> decide

end

section
variable {s : State} {rest : List Event}

/-- The start of a 9-bit receive with nothing waiting (R276). -/
theorem t9Start_of_empty (h : s.rxq = []) (t : BitVec 32) (e : Option (BitVec 16)) :
    t9Start t e s = { s with
      t9State := .waitFirst, t9Timer := t, t9Explen := e, t9Ovf := false
      rxbuf := [], rxtag := [], rxbufValid := false } := by
  have hq : rxqWithoutChars s.rxq = s.rxq := by rw [h]; rfl
  rw [t9Start_of_no_chars (by rw [h]; rfl), hq]

/-! A step while a receive runs. -/

theorem step_rxChar_t9 {c : BitVec 11} (hrun : s.t9State ≠ .off) (hev : s.events = .rxChar c :: rest) :
    step s = .next (t9Char c { s with events := rest }) :=
  (step_rxChar hev).trans (congrArg _ (onRxChar_t9 (s := { s with events := rest }) hrun c))

theorem step_tick_t9 (hrun : s.t9State ≠ .off) (hev : s.events = .tick :: rest) :
    step s = .next (receiveEnded (t9Tick { s with events := rest })) :=
  (step_tick hev).trans (congrArg _ (onTick_t9 (s := { s with events := rest }) hrun))

theorem step_rxByte_pjf {b : Byte} (hrun : s.pjfRxstate = .listen) (hev : s.events = .rxByte b :: rest) :
    step s = .next (receiveEnded (pjfByte b { s with events := rest })) :=
  (step_rxByte hev).trans (congrArg _ (onRxByte_pjf (s := { s with events := rest }) hrun b))

theorem step_tick_pjf (h9 : s.t9State = .off) (hrun : s.pjfRxstate = .listen) (hev : s.events = .tick :: rest) :
    step s = .next (receiveEnded (pjfTick { s with events := rest })) :=
  (step_tick hev).trans (congrArg _ (onTick_pjf (s := { s with events := rest }) h9 hrun))

end

/-- Settles O50: each event of a 9-bit receive by its lemma. -/
theorem nineBitReceiveCollects : Obligations.NineBitReceiveCollects := by
  refine ⟨fun s t e hidle ht hrxq => ?_, fun s rest a d hrun hev => ⟨fun hroom => ?_, fun hfull => ?_⟩,
    fun s rest c hrun hc hev => ?_, fun s rest hrun hev => ⟨fun hne => ?_, fun hlast hwait hx => ?_⟩⟩
  · rw [exec_t9Recv_of_legal hidle ht, t9Start_of_empty hrxq]
  · rw [step_rxChar_t9 hrun hev]
    exact congrArg _ (t9Char_symbol_of_lt (s := { s with events := rest }) hroom a d)
  · rw [step_rxChar_t9 hrun hev]
    exact congrArg _ (t9Char_symbol_of_full (s := { s with events := rest }) hfull a d)
  · rw [step_rxChar_t9 hrun hev, t9Char_of_malformed (charWellFormed_eq_false hc)]
  · rw [step_tick_t9 hrun hev, t9Tick_of_ne_one (s := { s with events := rest }) hne, receiveEnded_none]
  · rw [step_tick_t9 hrun hev, t9Tick_waitFirst (s := { s with events := rest }) hlast hwait,
      receiveEnded_standalone (s := { s with events := rest, t9Timer := 0, t9State := .off })
        (State.not_awaiting_of_resting hx), State.answer_noValue]

/-! One byte or tick of a PJON receive (R214). -/

section
variable {s t : State} {b : Byte}

theorem pjfByte_of_nothing (h : deframeByte b { s with pjfTimer := s.pjfTimeout } = (t, .nothing)) :
    pjfByte b s = (t, none) := by
  rw [pjfByte, h]

theorem pjfByte_of_malformed {info : BitVec 16}
    (h : deframeByte b { s with pjfTimer := s.pjfTimeout } = (t, .malformed info)) :
    pjfByte b s = (({ t with pjfRxstate := .off } : State).raise .malformedFrame info,
      some (.err .malformedFrame info)) := by
  rw [pjfByte, h]

theorem pjfByte_of_frame {f : Bytes} (h : deframeByte b { s with pjfTimer := s.pjfTimeout } = (t, .frame f)) :
    pjfByte b s = ((pjfEnd (pjonParse f { t with pjfRxstate := .off })).1,
      some (pjfEnd (pjonParse f { t with pjfRxstate := .off })).2) := by
  rw [pjfByte, h]

theorem pjfTick_of_ne_one (h : s.pjfTimer ≠ 1) : pjfTick s = ({ s with pjfTimer := s.pjfTimer - 1 }, none) := by
  rw [Ne, ← BitVec.sub_one_eq_zero_iff] at h
  exact (pjfTick_cases s).elim And.right fun hend => absurd hend.1 h

theorem pjfTick_of_eq_one (h : s.pjfTimer = 1) : pjfTick s = ({ s with
    pjfTimer := 0, pjfRxstate := .off, escState := .hunt
    rxbuf := [], rxtag := [], rxbufValid := false }, some .noValue) := by
  rw [← BitVec.sub_one_eq_zero_iff] at h
  exact (pjfTick_cases s).elim (fun hgoes => absurd h hgoes.1) And.right

/-- An error that a receive raised and then answers, outside an exchange. -/
theorem State.answer_raise (h : s.xchState = .idle ∨ s.xchState = .done ∨ s.xchState = .failed) (k : ErrKind)
    (info : BitVec 16) : (s.raise k info).answer (.err k info) = s.ended k info := by
  have hout : s.inExchange = false := (State.inExchange_eq_false s).2 h
  rw [State.answer_err ((State.inExchange_eq_false (s.raise k info)).2 h)]
  unfold State.raise
  rw [hout]
  rfl

theorem State.answer_raise_noValue (h : s.xchState = .idle ∨ s.xchState = .done ∨ s.xchState = .failed) (k : ErrKind)
    (info : BitVec 16) : (s.raise k info).answer .noValue = s.answered noneRsp := by
  have hout : s.inExchange = false := (State.inExchange_eq_false s).2 h
  rw [State.answer_noValue]
  unfold State.raise
  rw [hout]
  rfl

end

/-- The end of a PJON receive with the outcome of its frame's parse. -/
def pjfEnded (v : State × OpResult) : State := receiveEnded ((pjfEnd v).1, some (pjfEnd v).2)

section
variable {t : State} (h : t.xchState = .idle ∨ t.xchState = .done ∨ t.xchState = .failed)
include h

theorem pjfEnded_value (p : Bytes) :
    pjfEnded (t, .value p) = ({ t with rxbufValid := true } : State).answered (valueRsp p) :=
  (receiveEnded_standalone (s := { t with rxbufValid := true }) (State.not_awaiting_of_resting h) _).trans
    (State.answer_value _ _)

theorem pjfEnded_notAddressed (info : BitVec 16) :
    pjfEnded (t, .err .notAddressedToUs info) = t.answered noneRsp :=
  (receiveEnded_standalone (s := t.raise .notAddressedToUs info) (State.not_awaiting_of_resting h) _).trans
    (State.answer_raise_noValue h _ info)

theorem pjfEnded_err {k : ErrKind} (hk : k ≠ .notAddressedToUs) (info : BitVec 16) :
    pjfEnded (t, .err k info) = t.ended k info := by
  rcases pjfEnd_cases t (.err k info) with ⟨_, heq, -⟩ | ⟨_, _, -, heq, he⟩ | ⟨hno, -⟩
  · cases heq
    exact absurd rfl hk
  · cases heq
    rw [pjfEnded, he]
    exact (receiveEnded_standalone (s := t.raise k info) (State.not_awaiting_of_resting h) _).trans
      (State.answer_raise h k info)
  · exact absurd rfl (hno k info)

end

/-- What a stand-alone receive makes of its frame, where `v` is the end of a `PJON.PARSE` of the frame from `u`, and
`E` holds of the end of the receive: the same, but `RXBUF` is readable after data, and a frame for another device is
`None` (R214). -/
def EndsAsParse (E : State → Prop) (f : Bytes) (u v : State) : Prop :=
  match pjonVerdict u.cfg.deviceId f with
  | none => E { v with rxbufValid := true } ∧ v.rsp = u.rsp ++ [valueRsp (pjonPayload f)]
  | some (.notAddressedToUs, _) => E { v with errKind := .none, errInfo := 0, rsp := u.rsp ++ [noneRsp] }
  | some (k, info) => E v ∧ v.rsp = u.rsp ++ [errorRsp (k.code.zeroExtend 8) info]

theorem pjfEnded_pjonParse {u : State} (hidle : u.Idle) (f : Bytes) {E : State → Prop} (hE : E (pjfEnded (pjonParse f u))) :
    ∃ v : State, exec (.pjonParse f) u = .next v ∧ EndsAsParse E f u v := by
  have hstill := pjonParse_idle hidle f
  have hrsp := pjonParse_rsp f u
  unfold EndsAsParse
  cases hv : pjonVerdict u.cfg.deviceId f with
  | none =>
    refine ⟨_, exec_pjonParse_of_verdict_none hidle hv, ?_, congrArg (· ++ _) hrsp⟩
    obtain ⟨_, c8, c32, he⟩ := pjonParse_of_verdict_none hv
    rw [he] at hE hstill ⊢
    rw [pjfEnded_value hstill.1] at hE
    exact hE
  | some w =>
    obtain ⟨k, info⟩ := w
    have hexec := exec_pjonParse_of_verdict_some hidle hv
    obtain ⟨hk, hr, -⟩ := pjonParse_of_verdict_some hv
    generalize pjonParse f u = p at *
    obtain ⟨t, r⟩ := p
    dsimp only at hstill hrsp hexec hr
    subst hr
    refine ⟨_, hexec, ?_⟩
    by_cases hother : k = .notAddressedToUs
    · subst hother
      rw [pjfEnded_notAddressed hstill.1, State.answered, hrsp] at hE
      exact hE
    · rw [pjfEnded_err hstill.1 hother] at hE
      have hend : E (t.ended k info) ∧ (t.ended k info).rsp = u.rsp ++ [errorRsp (k.code.zeroExtend 8) info] :=
        ⟨hE, congrArg (· ++ _) hrsp⟩
      cases k <;> first | contradiction | exact hend

/-- Settles O40: each row of the deframer with the timer reloaded, and the two kinds of tick. -/
theorem pjonRecvStartsListening : Obligations.PjonRecvStartsListening := by
  refine ⟨fun s t e hidle ht hrxq => ?_, fun s q b rest hx h9 hrun hev hq => ?_, fun s rest hx h9 hrun hev =>
    ⟨fun hne => ?_, fun hlast => ?_⟩⟩
  · rw [exec_pjonRecv_of_legal hidle ht, pjfStart_of_empty hrxq, receiveEnded_none]
  · have hgoes {u : State} (h : deframeByte b q = (u, .nothing)) : step s = .next u := by
      rw [step_rxByte_pjf hrun hev, pjfByte_of_nothing (t := u) (by rw [← h, hq])]
      rfl
    have hmalformed {u : State} (hu : u.xchState = s.xchState) {info : BitVec 16}
        (h : deframeByte b q = (u, .malformed info)) :
        step s = .next (({ u with pjfRxstate := .off } : State).ended .malformedFrame info) := by
      rw [step_rxByte_pjf hrun hev, pjfByte_of_malformed (t := u) (by rw [← h, hq]), receiveEnded_standalone]
      · rw [State.answer_raise (hu ▸ hx)]
      · exact State.not_awaiting_of_resting (hu ▸ hx)
    have hqesc : q.escState = s.escState := by rw [hq]
    have hqrx : q.rxbuf = s.rxbuf := by rw [hq]
    have hqtag : q.rxtag = s.rxtag := by rw [hq]
    have hqmax : q.params = s.params := by rw [hq]
    have hqx : q.xchState = s.xchState := by rw [hq]
    refine ⟨fun hb => ?_, fun hhunt hb => ?_, fun hbody hb => ?_, fun hescaped hb => ?_, fun d hd => ?_,
      fun hbody hb => ?_⟩
    · rw [hgoes (hb ▸ deframeByte_start q)]
      rfl
    · exact hgoes (deframeByte_hunt (hqesc.trans hhunt) hb)
    · exact hgoes (hb ▸ deframeByte_body_esc (hqesc.trans hbody))
    · rw [hmalformed (u := { q.clearRx with escState := .hunt }) hqx
        (hb ▸ deframeByte_escaped_end (hqesc.trans hescaped)), hqrx]
      rfl
    · have hstores : deframeByte b q = deframeStore d q := deframeByte_stores (by rw [hqesc]; exact hd)
      refine ⟨fun hroom => ?_, fun hfull => ?_⟩
      · rw [hgoes (hstores.trans (deframeStore_of_lt (by rwa [hqrx, hqmax]) d)), ← hqrx, ← hqtag]
        rfl
      · rw [hmalformed (u := { q.clearRx with escState := .hunt }) hqx
          (hstores.trans (deframeStore_of_full (by rwa [hqrx, hqmax]) d)), ← hqmax]
        rfl
    · have hidle : ({ q with pjfRxstate := .off, escState := .hunt } : State).Idle :=
        ⟨hqx.symm ▸ hx, by rw [hq]; exact h9, rfl⟩
      have hstep : step s = .next (pjfEnded (pjonParse s.rxbuf { q with pjfRxstate := .off, escState := .hunt })) := by
        rw [step_rxByte_pjf hrun hev,
          pjfByte_of_frame (f := q.rxbuf) (t := { q with escState := .hunt })
            (by rw [← deframeByte_body_end (hqesc.trans hbody), hb, hq]), hqrx]
        rfl
      obtain ⟨v, hexec, hend⟩ := pjfEnded_pjonParse hidle s.rxbuf (E := fun t => step s = .next t) hstep
      have hrsp : q.rsp = s.rsp := by rw [hq]
      have hid : q.cfg.deviceId = s.cfg.deviceId := by rw [hq]
      refine ⟨v, hexec, ?_⟩
      unfold EndsAsParse at hend
      rw [hid, hrsp] at hend
      exact hend
  · rw [step_tick_pjf h9 hrun hev, pjfTick_of_ne_one (s := { s with events := rest }) hne, receiveEnded_none]
  · rw [step_tick_pjf h9 hrun hev, pjfTick_of_eq_one (s := { s with events := rest }) hlast, receiveEnded_standalone]
    · rw [State.answer_noValue]
    · exact State.not_awaiting_of_resting hx

end Sys2Proof.Machine

/-! Stale input: what waits in `RXQ` when a receive starts is handled as if it arrived right after the start
(spec/45_transport9.md R277, spec/43_pjon_frame.md R214, spec/47_exchange.md R324), and the retry decision (R325 to
R327). -/

namespace Sys2Proof.Machine

/-! `RXQ` is no part of what a received byte, an answer or the end of an exchange works on. -/

section
variable (s : State) (q : List RxItem)

theorem deframeByte_withRxq (b : Byte) :
    deframeByte b { s with rxq := q } = ({ (deframeByte b s).1 with rxq := q }, (deframeByte b s).2) := by
  have hstore (d : Byte) :
      deframeStore d { s with rxq := q } = ({ (deframeStore d s).1 with rxq := q }, (deframeStore d s).2) := by
    by_cases hfull : s.rxFull = true
    · rw [show deframeStore d s = _ from if_pos hfull]
      exact if_pos hfull
    · rw [show deframeStore d s = _ from if_neg hfull]
      exact if_neg hfull
  unfold deframeByte
  dsimp only
  split
  · rfl
  · split
    · rfl
    · split
      · rfl
      · split
        · rfl
        · exact hstore b
    · split
      · rfl
      · exact hstore _

theorem pjonParsePayload_withRxq (f : Bytes) :
    pjonParsePayload f { s with rxq := q } =
      ({ (pjonParsePayload f s).1 with rxq := q }, (pjonParsePayload f s).2) := by
  simp only [pjonParsePayload, pjonTakePayload]
  split_ifs <;> rfl

theorem pjonParse_withRxq (f : Bytes) :
    pjonParse f { s with rxq := q } = ({ (pjonParse f s).1 with rxq := q }, (pjonParse f s).2) := by
  have hpayload := pjonParsePayload_withRxq { s with pjfHdr := f.getD 1 0, crc8Reg := crc8 (f.take 3) } q f
  simp only [pjonParse]
  split_ifs
  all_goals first | rfl | exact hpayload

theorem pjfEnd_withRxq (v : State × OpResult) :
    pjfEnd ({ v.1 with rxq := q }, v.2) = ({ (pjfEnd v).1 with rxq := q }, (pjfEnd v).2) := by
  obtain ⟨t, r⟩ := v
  cases r with
  | err k info => cases k <;> rfl
  | value p => rfl
  | noValue => rfl
  | void => rfl

theorem pjfByte_withRxq (b : Byte) :
    pjfByte b { s with rxq := q } = ({ (pjfByte b s).1 with rxq := q }, (pjfByte b s).2) := by
  have hdeframe := deframeByte_withRxq { s with pjfTimer := s.pjfTimeout } q b
  rcases hv : deframeByte b { s with pjfTimer := s.pjfTimeout } with ⟨t, r⟩
  rw [hv] at hdeframe
  cases r with
  | nothing => rw [pjfByte_of_nothing hv, pjfByte_of_nothing hdeframe]
  | malformed info =>
    rw [pjfByte_of_malformed hv, pjfByte_of_malformed hdeframe]
    rfl
  | frame f =>
    have hparse := pjonParse_withRxq { t with pjfRxstate := .off } q f
    rw [pjfByte_of_frame hv, pjfByte_of_frame hdeframe, hparse, pjfEnd_withRxq]

theorem State.answer_withRxq (r : OpResult) :
    State.answer r { s with rxq := q } = { s.answer r with rxq := q } := by
  cases r <;> rfl

theorem xchValidate_withRxq (r : Bytes) : xchValidate r { s with rxq := q } = { xchValidate r s with rxq := q } := by
  unfold xchValidate
  cases pktResponse r with
  | err k info => rfl
  | value p => exact State.answer_withRxq { s with xchResp := p, xchState := .done } q (xchPayloadResult s.xchOp p)
  | noValue => rfl
  | void => rfl

end

theorem State.answer_rxstate (r : OpResult) (s : State) : (s.answer r).pjfRxstate = s.pjfRxstate := by
  cases r <;> rfl

theorem xchValidate_rxstate (r : Bytes) (s : State) : (xchValidate r s).pjfRxstate = s.pjfRxstate := by
  unfold xchValidate
  cases pktResponse r with
  | err k info => rfl
  | value p => exact State.answer_rxstate (xchPayloadResult s.xchOp p) { s with xchResp := p, xchState := .done }
  | noValue => rfl
  | void => rfl

/-! An attempt (R323, R324). -/

/-- The request of an attempt is counted, and its receive awaited (R323). -/
def State.attempted (s : State) : State :=
  { s with xchAttempts := s.xchAttempts + 1, xchState := .awaitingResponse }

/-- A 9-bit attempt, its receive started on the characters that wait. -/
theorem xchAttempt_eq_foldl {s : State} (h : s.cfg.transport = .ser9) :
    xchAttempt s = ((rxqChars s.rxq).foldl (fun u c => t9Char c u)
      { s.attempted.sent9 (bytes48 s.xchReq) (s.xchExplen.map (· + 1)) with rxq := rxqWithoutChars s.rxq }, none) := by
  obtain ⟨hr, hs⟩ := xchAttempt_ser9 h
  refine Prod.ext ?_ hr
  rw [hs, t9SendFrame_eq_frameTrace, t9Start_eq_foldl]
  rfl

/-- A PJON attempt, its receive started on the bytes that wait. -/
theorem xchAttempt_eq_pjfDrain {s : State} (h : s.cfg.transport = .pjon) :
    xchAttempt s = pjfDrain [] s.rxq (s.attempted.sentPjon (bytes48 s.xchReq)) := by
  have hsend : xchTransmit { s with xchAttempts := s.xchAttempts + 1 } =
      pjonSendFrame (bytes48 s.xchReq) { s with xchAttempts := s.xchAttempts + 1 } := by
    unfold xchTransmit
    simp only [h]
  have hlisten (u : State) (hu : u.cfg.transport = .pjon) : xchListen u = pjfStart u.cfg.rxTimeout u := by
    unfold xchListen
    simp only [hu]
  unfold xchAttempt
  rw [hsend, pjonSendFrame_eq, pjonBuildFrame_of_le (by rw [bytes48_length]; decide)]
  exact hlisten _ h

/-- The awaited exchange that an attempt with no stale input leaves. -/
def State.sentAttempt (s : State) : State :=
  match s.cfg.transport with
  | .ser9 => s.attempted.sent9 (bytes48 s.xchReq) (s.xchExplen.map (· + 1))
  | .pjon => s.attempted.sentPjon (bytes48 s.xchReq)

theorem State.sentAttempt_ser9 {s : State} (h : s.cfg.transport = .ser9) :
    s.sentAttempt = s.attempted.sent9 (bytes48 s.xchReq) (s.xchExplen.map (· + 1)) := by
  unfold State.sentAttempt
  simp only [h]

theorem State.sentAttempt_pjon {s : State} (h : s.cfg.transport = .pjon) :
    s.sentAttempt = s.attempted.sentPjon (bytes48 s.xchReq) := by
  unfold State.sentAttempt
  simp only [h]

theorem xchAttempt_of_empty {s : State} (h : s.rxq = []) : xchAttempt s = (s.sentAttempt, none) := by
  cases ht : s.cfg.transport with
  | ser9 =>
    have hq : rxqWithoutChars s.rxq = s.rxq := by rw [h]; rfl
    have hchars : rxqChars s.rxq = [] := by rw [h]; rfl
    rw [xchAttempt_eq_foldl ht, State.sentAttempt_ser9 ht, hq, hchars]
    rfl
  | pjon =>
    rw [xchAttempt_eq_pjfDrain ht, State.sentAttempt_pjon ht, h, pjfDrain_nil, ← h]
    rfl

/-- Whatever waits in `RXQ`, an attempt leaves the exchange awaiting with the retries it had. -/
theorem xchAttempt_awaits (s : State) :
    (xchAttempt s).1.xchState = .awaitingResponse ∧ (xchAttempt s).1.retriesLeft = s.retriesLeft := by
  cases ht : s.cfg.transport with
  | ser9 =>
    rw [xchAttempt_eq_foldl ht]
    have hframe := (foldl_t9Char_receives (rxqChars s.rxq)
      { s.attempted.sent9 (bytes48 s.xchReq) (s.xchExplen.map (· + 1)) with rxq := rxqWithoutChars s.rxq }).frame
    exact ⟨hframe.xchState, by rw [State.retriesLeft, hframe.cfg, hframe.xchRetries]; rfl⟩
  | pjon =>
    rw [xchAttempt_eq_pjfDrain ht]
    have hframe := (pjfDrain_receives s.rxq [] (s.attempted.sentPjon (bytes48 s.xchReq))).frame
    exact ⟨hframe.xchState, by rw [State.retriesLeft, hframe.cfg, hframe.xchRetries]; rfl⟩

/-! The retry decision (R325 to R327). -/

/-- The receive of an attempt returned no data: an error, or `None`, which counts as `NoResponse`. -/
def FailsWith (r : OpResult) (k : ErrKind) (info : BitVec 16) : Prop :=
  r = .err k info ∨ (r = .noValue ∧ k = .noResponse ∧ info = 0)

section
variable {s : State} {r : OpResult} {k : ErrKind} {info : BitVec 16} (hx : s.xchState = .awaitingResponse)
  (hr : FailsWith r k info)
include hx hr

/-- No retry is left, or the kind is none to retry: the exchange fails with the error (R325, R327). -/
theorem receiveEnded_failed (h : k.retryable = false ∨ s.cfg.retryPacket ≤ s.xchRetries) :
    receiveEnded (s, some r) =
      ({ s with xchState := .failed, xchLasterr := some (k, info) } : State).ended k info := by
  have hfail : receiveEnded (s, some r) = xchFail k info s := by
    rw [receiveEnded_exchange hx]
    by_cases hk : k.retryable = false
    · rcases hr with rfl | ⟨rfl, rfl, rfl⟩
      · exact xchSettle_fatal hk _ info s
      · cases hk
    · have hnone : s.retriesLeft = 0 := by
        have hle := BitVec.le_def.1 (h.resolve_left hk)
        rw [State.retriesLeft]
        omega
      rw [hnone]
      rcases hr with rfl | ⟨rfl, rfl, rfl⟩ <;> rfl
  rw [hfail, xchFail_eq]

/-- A retry is left: the next attempt is made, and whatever it comes to at once is settled in turn (R327). -/
theorem receiveEnded_retried (hk : k.retryable = true) (h : s.xchRetries < s.cfg.retryPacket) :
    receiveEnded (s, some r) = receiveEnded (xchAttempt (xchRetry k info s)) := by
  have hlt := BitVec.lt_def.1 h
  have hlimit := s.cfg.retryPacket.isLt
  have hnext : (s.xchRetries + 1).toNat = s.xchRetries.toNat + 1 := by
    rw [BitVec.toNat_add]
    exact Nat.mod_eq_of_lt (by simp; omega)
  have hleft : s.retriesLeft = (xchRetry k info s).retriesLeft + 1 := by
    change s.cfg.retryPacket.toNat - s.xchRetries.toNat = s.cfg.retryPacket.toNat - (s.xchRetries + 1).toNat + 1
    omega
  have hsettle : xchSettle s.retriesLeft r s = match (xchAttempt (xchRetry k info s)).2 with
      | none => (xchAttempt (xchRetry k info s)).1
      | some r => xchSettle (xchRetry k info s).retriesLeft r (xchAttempt (xchRetry k info s)).1 := by
    rw [hleft]
    rcases hr with rfl | ⟨rfl, rfl, rfl⟩
    · exact xchSettle_succ_err hk _ info s
    · exact xchSettle_succ_noValue _ s
  obtain ⟨hawaits, hsame⟩ := xchAttempt_awaits (xchRetry k info s)
  rw [receiveEnded_exchange hx, hsettle, ← hsame]
  generalize xchAttempt (xchRetry k info s) = v at *
  obtain ⟨u, _ | r'⟩ := v
  · rfl
  · exact (receiveEnded_exchange hawaits r').symm

end

/-! Stale characters (R277). -/

/-- While a 9-bit receive runs its characters do not go to `RXQ`. -/
theorem foldl_t9Char_eq_onRxChar (cs : List (BitVec 11)) {s : State} (h : s.t9State ≠ .off) :
    cs.foldl (fun u c => t9Char c u) s = cs.foldl (fun u c => onRxChar c u) s := by
  induction cs generalizing s with
  | nil => rfl
  | cons c cs ih =>
    have hstill : (t9Char c s).t9State ≠ .off := by
      rcases t9Char_cases c s with ⟨-, he⟩ | ⟨-, -, he⟩ | ⟨-, -, he⟩ <;> rw [he]
      · exact h
      · exact fun hoff => by cases hoff
      · exact fun hoff => by cases hoff
    rw [List.foldl_cons, List.foldl_cons, onRxChar_t9 h, ih hstill]

@[simp] theorem rxqChars_map_char (cs : List (BitVec 11)) : rxqChars (cs.map .char) = cs := by
  rw [rxqChars, List.filterMap_map]
  exact List.filterMap_some

@[simp] theorem rxqWithoutChars_map_char (cs : List (BitVec 11)) : rxqWithoutChars (cs.map .char) = [] := by
  rw [rxqWithoutChars, List.filter_map, List.map_eq_nil_iff, List.filter_eq_nil_iff]
  exact fun _ _ h => by cases h

/-- Characters that wait at an attempt. -/
theorem xchAttempt_stale_ser9 {s : State} (h : s.cfg.transport = .ser9) {cs : List (BitVec 11)}
    (hq : s.rxq = cs.map .char) :
    xchAttempt s = (cs.foldl (fun u c => onRxChar c u) { s with rxq := [] }.sentAttempt, none) := by
  have hempty : { s with rxq := [] }.sentAttempt =
      { s.attempted.sent9 (bytes48 s.xchReq) (s.xchExplen.map (· + 1)) with rxq := [] } :=
    State.sentAttempt_ser9 (s := { s with rxq := [] }) h
  rw [xchAttempt_eq_foldl h, hq, rxqChars_map_char, rxqWithoutChars_map_char, hempty,
    foldl_t9Char_eq_onRxChar cs (fun hoff => by cases hoff)]

/-! Stale bytes (R214): a byte that ends the receive leaves the rest to the next one, or in `RXQ`. -/

/-- With no PJON receive running bytes go to `RXQ`. -/
theorem foldl_onRxByte_of_off (bs : Bytes) {s : State} (h : s.pjfRxstate = .off) :
    bs.foldl (fun u b => onRxByte b u) s = { s with rxq := s.rxq ++ bs.map .byte } := by
  induction bs generalizing s with
  | nil => rw [List.map_nil, List.append_nil]; rfl
  | cons b bs ih =>
    rw [List.foldl_cons, onRxByte_of_off h, ih (s := { s with rxq := s.rxq ++ [.byte b] }) h, List.append_assoc]
    rfl

theorem withRxq_eq_foldl_onRxByte (bs : Bytes) {s : State} (h : s.pjfRxstate = .off) :
    { s with rxq := bs.map .byte } = bs.foldl (fun u b => onRxByte b u) { s with rxq := [] } :=
  (foldl_onRxByte_of_off bs (s := { s with rxq := [] }) h).symm

/-- What a byte leaves of a receive: it still runs, or it is off. -/
theorem pjfByte_rxstate {s : State} (h : s.pjfRxstate = .listen) (b : Byte) :
    ((pjfByte b s).2 = none → (pjfByte b s).1.pjfRxstate = .listen) ∧
      ((pjfByte b s).2 ≠ none → (pjfByte b s).1.pjfRxstate = .off) := by
  obtain ⟨e, rx, tag, v, hstate, -⟩ := deframeByte_frame b { s with pjfTimer := s.pjfTimeout }
  rcases pjfByte_cases b s with ⟨-, he⟩ | ⟨info, -, he⟩ | ⟨f, -, he⟩ <;> rw [he]
  · rw [hstate]
    exact ⟨fun _ => h, fun hn => absurd rfl hn⟩
  · exact ⟨fun hn => (by cases hn), fun _ => rfl⟩
  · refine ⟨fun hn => (by cases hn), fun _ => ?_⟩
    obtain ⟨hdr, c8, c32, snd, valid, hparse, -⟩ := pjonParse_frame f
      { (deframeByte b { s with pjfTimer := s.pjfTimeout }).1 with pjfRxstate := .off }
    generalize pjonParse f { (deframeByte b { s with pjfTimer := s.pjfTimeout }).1 with pjfRxstate := .off } = p at *
    obtain ⟨t, r⟩ := p
    dsimp only at hparse
    rcases pjfEnd_cases t r with ⟨_, -, he'⟩ | ⟨_, _, -, -, he'⟩ | ⟨-, he'⟩ <;> rw [he', hparse] <;> rfl

/-- Taking the bytes of `RXQ` from a listening state is taking them as they arrive. -/
def DrainsAsArriving (bs : Bytes) : Prop :=
  ∀ u : State, u.pjfRxstate = .listen → (u.xchState = .awaitingResponse → u.cfg.transport = .pjon) →
    receiveEnded (pjfDrain [] (bs.map .byte) u) = bs.foldl (fun u b => onRxByte b u) { u with rxq := [] }

/-- Bytes that wait at an attempt, where a drain takes them as they arrive. -/
theorem receiveEnded_xchAttempt_stale {s : State} (h : s.cfg.transport = .pjon) {bs : Bytes} (hq : s.rxq = bs.map .byte)
    (hbs : DrainsAsArriving bs) :
    receiveEnded (xchAttempt s) = bs.foldl (fun u b => onRxByte b u) { s with rxq := [] }.sentAttempt := by
  have hempty : { s with rxq := [] }.sentAttempt =
      { s.attempted.sentPjon (bytes48 s.xchReq) with rxq := [] } :=
    State.sentAttempt_pjon (s := { s with rxq := [] }) h
  rw [xchAttempt_eq_pjfDrain h, hq, hempty]
  exact hbs _ rfl fun _ => h

/-- The end of a receive whose transport is off, with bytes behind it: they go to the next attempt or wait on. -/
theorem receiveEnded_stale {t : State} {bs : Bytes} (hoff : t.pjfRxstate = .off)
    (htransport : t.xchState = .awaitingResponse → t.cfg.transport = .pjon) (hbs : DrainsAsArriving bs) (r : OpResult) :
    receiveEnded ({ t with rxq := bs.map .byte }, some r) =
      bs.foldl (fun u b => onRxByte b u) (receiveEnded ({ t with rxq := [] }, some r)) := by
  by_cases hx : t.xchState = .awaitingResponse
  · have hfails (k : ErrKind) (info : BitVec 16) (hr : FailsWith r k info) :
        receiveEnded ({ t with rxq := bs.map .byte }, some r) =
          bs.foldl (fun u b => onRxByte b u) (receiveEnded ({ t with rxq := [] }, some r)) := by
      by_cases hretry : k.retryable = true ∧ t.xchRetries < t.cfg.retryPacket
      · obtain ⟨hk, hlt⟩ := hretry
        rw [receiveEnded_retried (s := { t with rxq := bs.map .byte }) hx hr hk hlt,
          receiveEnded_retried (s := { t with rxq := [] }) hx hr hk hlt,
          receiveEnded_xchAttempt_stale (s := xchRetry k info { t with rxq := bs.map .byte }) (htransport hx) rfl hbs,
          xchAttempt_of_empty (s := xchRetry k info { t with rxq := [] }) rfl]
        rfl
      · have hlast : k.retryable = false ∨ t.cfg.retryPacket ≤ t.xchRetries := by
          rw [← Bool.not_eq_true, ← BitVec.not_lt]
          exact not_and_or.1 hretry
        rw [receiveEnded_failed (s := { t with rxq := bs.map .byte }) hx hr hlast,
          receiveEnded_failed (s := { t with rxq := [] }) hx hr hlast]
        exact withRxq_eq_foldl_onRxByte bs
          (s := ({ t with xchState := .failed, xchLasterr := some (k, info) } : State).ended k info) hoff
    cases r with
    | err k info => exact hfails k info (.inl rfl)
    | noValue => exact hfails .noResponse 0 (.inr ⟨rfl, rfl, rfl⟩)
    | void =>
      rw [receiveEnded_exchange (s := { t with rxq := bs.map .byte }) hx,
        receiveEnded_exchange (s := { t with rxq := [] }) hx, xchSettle_void, xchSettle_void]
      exact withRxq_eq_foldl_onRxByte bs hoff
    | value p =>
      have hvalidated (q : List RxItem) :
          receiveEnded ({ t with rxq := q }, some (.value p)) = { xchValidate p t with rxq := q } :=
        (receiveEnded_value (s := { t with rxq := q }) hx p).trans (xchValidate_withRxq t q p)
      rw [hvalidated, hvalidated]
      exact withRxq_eq_foldl_onRxByte bs ((xchValidate_rxstate p t).trans hoff)
  · have hanswered (q : List RxItem) : receiveEnded ({ t with rxq := q }, some r) = { t.answer r with rxq := q } :=
      (receiveEnded_standalone (s := { t with rxq := q }) hx r).trans (State.answer_withRxq t q r)
    rw [hanswered, hanswered]
    exact withRxq_eq_foldl_onRxByte bs ((State.answer_rxstate r t).trans hoff)

theorem drainsAsArriving (bs : Bytes) : DrainsAsArriving bs := by
  induction bs with
  | nil => exact fun u _ _ => rfl
  | cons b bs ih =>
    intro u hlisten htransport
    have hstate := pjfByte_rxstate hlisten b
    have hframe := (pjfByte_receives b u).frame
    rw [List.map_cons, pjfDrain_byte, List.foldl_cons, onRxByte_pjf (s := { u with rxq := [] }) hlisten,
      pjfByte_withRxq u []]
    generalize pjfByte b u = v at *
    obtain ⟨t, _ | r⟩ := v
    · exact ih t (hstate.1 rfl) fun hx => by
        rw [hframe.cfg]
        exact htransport (hframe.xchState ▸ hx)
    · refine receiveEnded_stale (hstate.2 (Option.some_ne_none r)) (fun hx => ?_) ih r
      rw [hframe.cfg]
      exact htransport (hframe.xchState ▸ hx)

end Sys2Proof.Machine

/-! Stale input at the start of a receive and of an exchange, and at a retry (spec/45_transport9.md R277,
spec/43_pjon_frame.md R214, spec/47_exchange.md R321 to R327). -/

namespace Sys2Proof.Machine

/-- The bytes waiting in `RXQ`, oldest first. -/
def rxqBytes (q : List RxItem) : Bytes :=
  q.filterMap fun
    | .char _ => none
    | .byte b => some b

@[simp] theorem rxqBytes_nil : rxqBytes [] = [] := rfl
@[simp] theorem rxqBytes_cons_char (c : BitVec 11) (q : List RxItem) : rxqBytes (.char c :: q) = rxqBytes q := rfl
@[simp] theorem rxqBytes_cons_byte (b : Byte) (q : List RxItem) : rxqBytes (.byte b :: q) = b :: rxqBytes q := rfl
@[simp] theorem rxqBytes_append (p q : List RxItem) : rxqBytes (p ++ q) = rxqBytes p ++ rxqBytes q :=
  List.filterMap_append

@[simp] theorem rxqChars_nil : rxqChars [] = [] := rfl
@[simp] theorem rxqChars_cons_char (c : BitVec 11) (q : List RxItem) : rxqChars (.char c :: q) = c :: rxqChars q := rfl
@[simp] theorem rxqChars_cons_byte (b : Byte) (q : List RxItem) : rxqChars (.byte b :: q) = rxqChars q := rfl
@[simp] theorem rxqChars_append (p q : List RxItem) : rxqChars (p ++ q) = rxqChars p ++ rxqChars q :=
  List.filterMap_append

@[simp] theorem rxqBytes_map_byte (bs : Bytes) : rxqBytes (bs.map .byte) = bs := by
  rw [rxqBytes, List.filterMap_map]
  exact List.filterMap_some

@[simp] theorem rxqChars_map_byte (bs : Bytes) : rxqChars (bs.map .byte) = [] := by
  rw [rxqChars, List.filterMap_map, List.filterMap_eq_nil_iff]
  exact fun _ _ => rfl

@[simp] theorem rxqBytes_map_char (cs : List (BitVec 11)) : rxqBytes (cs.map .char) = [] := by
  rw [rxqBytes, List.filterMap_map, List.filterMap_eq_nil_iff]
  exact fun _ _ => rfl

/-- Without its characters `RXQ` is its bytes. -/
theorem rxqWithoutChars_eq (q : List RxItem) : rxqWithoutChars q = (rxqBytes q).map .byte := by
  induction q with
  | nil => rfl
  | cons item q ih =>
    cases item with
    | char c => exact ih
    | byte b => exact congrArg (RxItem.byte b :: ·) ih

/-! Stand-alone receives. -/

section
variable {s : State}

theorem State.idle_withRxq (h : s.Idle) (q : List RxItem) : ({ s with rxq := q } : State).Idle :=
  (State.idle_congr rfl rfl rfl).2 h

/-- The characters of `RXQ` at the start of a 9-bit receive, as if they arrived right after it. -/
theorem t9Start_stale (t : BitVec 32) (e : Option (BitVec 16)) (s : State) :
    t9Start t e s = (rxqChars s.rxq).foldl (fun u c => onRxChar c u)
      (t9Start t e { s with rxq := (rxqBytes s.rxq).map .byte }) := by
  rw [t9Start_of_no_chars (s := { s with rxq := (rxqBytes s.rxq).map .byte }) (rxqChars_map_byte _),
    rxqWithoutChars_eq, rxqBytes_map_byte, t9Start_eq_foldl, State.waiting, rxqWithoutChars_eq,
    foldl_t9Char_eq_onRxChar _ (fun hoff => by cases hoff)]
  rfl

/-- A PJON receive outside an exchange over a mixed queue: its bytes are taken as if they arrived, the characters and
what it does not take wait on, each in its order. -/
theorem receiveEnded_pjfDrain_mixed (q kept : List RxItem) {u : State} (hlisten : u.pjfRxstate = .listen)
    (hx : u.xchState ≠ .awaitingResponse) :
    ∃ (w : State) (left : Bytes) (q' : List RxItem),
      w = (rxqBytes q).foldl (fun u b => onRxByte b u) { u with rxq := [] } ∧ w.rxq = left.map .byte ∧
      receiveEnded (pjfDrain kept q u) = { w with rxq := q' } ∧
      rxqChars q' = rxqChars kept ++ rxqChars q ∧ rxqBytes q' = rxqBytes kept ++ left := by
  induction q generalizing kept u with
  | nil => exact ⟨_, [], kept, rfl, rfl, rfl, (List.append_nil _).symm, (List.append_nil _).symm⟩
  | cons item q ih =>
    cases item with
    | char c =>
      obtain ⟨w, left, q', hw, hleft, hend, hchars, hbytes⟩ := ih (kept ++ [.char c]) hlisten hx
      refine ⟨w, left, q', hw, hleft, hend, ?_, ?_⟩
      · simpa using hchars
      · simpa using hbytes
    | byte b =>
      have hstate := pjfByte_rxstate hlisten b
      have hframe := (pjfByte_receives b u).frame
      rw [rxqBytes_cons_byte, List.foldl_cons, pjfDrain_byte, onRxByte_pjf (s := { u with rxq := [] }) hlisten,
        pjfByte_withRxq u []]
      generalize pjfByte b u = v at *
      obtain ⟨t, _ | r⟩ := v
      · exact ih kept (hstate.1 rfl) (hframe.xchState ▸ hx)
      · have hout : t.xchState ≠ .awaitingResponse := hframe.xchState ▸ hx
        have hanswered (q : List RxItem) : receiveEnded ({ t with rxq := q }, some r) = { t.answer r with rxq := q } :=
          (receiveEnded_standalone (s := { t with rxq := q }) hout r).trans (State.answer_withRxq t q r)
        have hoff : (t.answer r).pjfRxstate = .off :=
          (State.answer_rxstate r t).trans (hstate.2 (Option.some_ne_none r))
        refine ⟨_, rxqBytes q, kept ++ q, rfl, ?_, ?_, ?_, ?_⟩
        · dsimp only
          rw [hanswered, ← withRxq_eq_foldl_onRxByte _ hoff]
        · dsimp only
          rw [hanswered, hanswered, ← withRxq_eq_foldl_onRxByte _ hoff]
        · simp
        · simp

end

/-- Settles O43: a 9-bit receive takes its characters in one fold, a PJON receive drains its bytes as they would
arrive. -/
theorem receivesTakeStaleInputFirst : Obligations.ReceivesTakeStaleInputFirst := by
  intro s t e hidle ht
  have hempty (q : List RxItem) := State.idle_withRxq hidle q
  have hout : (s.listening t).xchState ≠ .awaitingResponse := State.not_awaiting_of_idle (s := s) hidle
  refine ⟨fun cs hcs => ?_, fun bs hbs => ?_, fun cs bs hcs hbs => ⟨?_, ?_⟩⟩
  · refine ⟨_, exec_t9Recv_of_legal (hempty []) ht e, ?_⟩
    rw [exec_t9Recv_of_legal hidle ht, t9Start_stale, hcs, rxqChars_map_char, rxqBytes_map_char]
    rfl
  · refine ⟨_, exec_pjonRecv_of_legal (hempty []) ht e, ?_⟩
    rw [exec_pjonRecv_of_legal hidle ht, pjfStart_eq_pjfDrain, hbs,
      drainsAsArriving bs (s.listening t) rfl fun hx => absurd hx hout]
    rfl
  · refine ⟨_, exec_t9Recv_of_legal (hempty (bs.map .byte)) ht e, ?_⟩
    rw [exec_t9Recv_of_legal hidle ht, t9Start_stale, hcs, hbs]
    rfl
  · obtain ⟨w, left, q', hw, hleft, hend, hchars, hbytes⟩ := receiveEnded_pjfDrain_mixed (u := s.listening t) s.rxq []
      rfl hout
    refine ⟨_, w, q', left, exec_pjonRecv_of_legal (hempty []) ht e, ?_, hleft, ?_, ?_, hbytes⟩
    · rw [hw, hbs]
      rfl
    · rw [exec_pjonRecv_of_legal hidle ht, pjfStart_eq_pjfDrain, hend]
    · rw [hcs]
      exact hchars

/-! The start of an exchange. -/

theorem toNat_append_eq_add {n m : Nat} (x : BitVec n) (y : BitVec m) :
    (x ++ y).toNat = x.toNat * 2 ^ m + y.toNat := by
  rw [BitVec.toNat_append, ← Nat.shiftLeft_add_eq_or_of_lt y.isLt, Nat.shiftLeft_eq]

theorem toNat_shiftIn {v : BitVec 48} (h : v.toNat < 2 ^ 40) (b : Byte) :
    ((v <<< 8) ||| b.zeroExtend 48).toNat = v.toNat * 256 + b.toNat := by
  have hb := b.isLt
  rw [BitVec.toNat_or, BitVec.toNat_shiftLeft, BitVec.toNat_setWidth, Nat.shiftLeft_eq,
    Nat.mod_eq_of_lt (a := v.toNat * 2 ^ 8) (by omega), Nat.mod_eq_of_lt (a := b.toNat) (by omega), ← Nat.shiftLeft_eq,
    ← Nat.shiftLeft_add_eq_or_of_lt hb, Nat.shiftLeft_eq]

/-- The request register, as its bytes spell it (R93). -/
theorem body48_eq_foldl (port ty : Byte) (ad pa : BitVec 16) : body48 port ty ad pa =
    (packetBody port ty ad pa).foldl (fun (v : BitVec 48) b => (v <<< 8) ||| b.zeroExtend 48) 0 := by
  have halves (x : BitVec 16) : x.toNat = (hi8 x).toNat * 256 + (lo8 x).toNat := by
    rw [← u16be_toNat, u16be_hi8_lo8]
  have hbytes := fun b : Byte => b.isLt
  apply BitVec.eq_of_toNat_eq
  have hbody : (body48 port ty ad pa).toNat =
      ((port.toNat * 256 + ty.toNat) * 65536 + ad.toNat) * 65536 + pa.toNat := by
    rw [body48, toNat_append_eq_add, toNat_append_eq_add, toNat_append_eq_add]
    omega
  have h0 : ((0 : BitVec 48)).toNat = 0 := rfl
  have hport := hbytes port
  have hty := hbytes ty
  have hadhi := hbytes (hi8 ad)
  have hadlo := hbytes (lo8 ad)
  have hpahi := hbytes (hi8 pa)
  have hpalo := hbytes (lo8 pa)
  rw [hbody, halves ad, halves pa]
  have h1 := toNat_shiftIn (v := 0) (by decide) port
  have h2 := toNat_shiftIn (by rw [h1]; omega) ty
  have h3 := toNat_shiftIn (by rw [h2]; omega) (hi8 ad)
  have h4 := toNat_shiftIn (by rw [h3]; omega) (lo8 ad)
  have h5 := toNat_shiftIn (by rw [h4]; omega) (hi8 pa)
  have h6 := toNat_shiftIn (by rw [h5]; omega) (lo8 pa)
  refine Eq.trans ?_ h6.symm
  omega

theorem attempted_xchBegin (op : XchOp) (port ty : Byte) (ad pa : BitVec 16) (e : Option (BitVec 16)) (s : State) :
    (xchBegin op (body48 port ty ad pa) e s).attempted = s.exchangeBegun op (packetBody port ty ad pa) e := by
  rw [State.exchangeBegun, ← body48_eq_foldl]
  rfl

section
variable {s : State} (hrxq : s.rxq = []) (op : XchOp) (port ty : Byte) (ad pa : BitVec 16) (e : Option (BitVec 16))
include hrxq

/-- An exchange with nothing waiting awaits the response to its first attempt. -/
theorem xchStart_of_empty (body : BitVec 48) :
    xchStart op body e s = (xchBegin op body e s).sentAttempt := by
  rw [xchStart, xchAttempt_of_empty (s := xchBegin op body e s) hrxq, receiveEnded_none]

theorem xchStart_ser9 (h : s.cfg.transport = .ser9) : xchStart op (body48 port ty ad pa) e s =
    (s.exchangeBegun op (packetBody port ty ad pa) e).sent9 (packetBody port ty ad pa) (e.map (· + 1)) := by
  rw [xchStart_of_empty hrxq, State.sentAttempt_ser9 (s := xchBegin op (body48 port ty ad pa) e s) h,
    attempted_xchBegin, ← bytes48_body48]
  rfl

theorem xchStart_pjon (h : s.cfg.transport = .pjon) : xchStart op (body48 port ty ad pa) e s =
    (s.exchangeBegun op (packetBody port ty ad pa) e).sentPjon (packetBody port ty ad pa) := by
  rw [xchStart_of_empty hrxq, State.sentAttempt_pjon (s := xchBegin op (body48 port ty ad pa) e s) h,
    attempted_xchBegin, ← bytes48_body48]
  rfl

end

/-- Settles O54: with nothing waiting the first attempt is one record; with stale input it is that, and the input
arrives. -/
theorem exchangeSendsFirstAttempt : Obligations.ExchangeSendsFirstAttempt := by
  constructor
  · intro s port ty ad pa e hidle hrxq hport
    have hread : (2 : Byte).toNat ∈ [2, 3, 4, 22] := by decide
    refine ⟨fun htransport => ⟨fun hty => ?_, ?_, ?_⟩, fun htransport => ⟨fun hty => ?_, ?_, ?_⟩⟩
    · exact (exec_exchangeCommand_of_legal hidle hport hty .send ad pa e).trans
        (congrArg _ (xchStart_ser9 hrxq _ _ _ _ _ _ htransport))
    · exact (exec_exchangeCommand_of_legal hidle hport hread .query ad pa none).trans
        (congrArg _ (xchStart_ser9 hrxq _ _ _ _ _ _ htransport))
    · exact (exec_exchangeCommand_of_legal hidle hport hread .control ad pa none).trans
        (congrArg _ (xchStart_ser9 hrxq _ _ _ _ _ _ htransport))
    · exact (exec_exchangeCommand_of_legal hidle hport hty .send ad pa e).trans
        (congrArg _ (xchStart_pjon hrxq _ _ _ _ _ _ htransport))
    · exact (exec_exchangeCommand_of_legal hidle hport hread .query ad pa none).trans
        (congrArg _ (xchStart_pjon hrxq _ _ _ _ _ _ htransport))
    · exact (exec_exchangeCommand_of_legal hidle hport hread .control ad pa none).trans
        (congrArg _ (xchStart_pjon hrxq _ _ _ _ _ _ htransport))
  · intro s op port ty ad pa e hidle hport hty
    refine ⟨_, exec_exchangeCommand_of_legal (State.idle_withRxq hidle []) hport hty op ad pa e,
      fun cs htransport hcs => ?_, fun bs htransport hbs => ?_⟩
    · rw [exec_exchangeCommand_of_legal hidle hport hty, xchStart_of_empty (s := { s with rxq := [] }) rfl, xchStart,
        xchAttempt_stale_ser9 (s := xchBegin _ _ _ s) htransport hcs, receiveEnded_none]
      rfl
    · rw [exec_exchangeCommand_of_legal hidle hport hty, xchStart_of_empty (s := { s with rxq := [] }) rfl, xchStart,
        receiveEnded_xchAttempt_stale (s := xchBegin _ _ _ s) htransport hbs (drainsAsArriving bs)]
      rfl

/-- What an attempt puts on the line, over either transport (R323). -/
theorem sentAttempt_lineTx (s : State) :
    s.sentAttempt.lineTx = s.lineTx ++ requestTrace s.cfg (bytes48 s.xchReq) := by
  cases h : s.cfg.transport with
  | ser9 =>
    rw [State.sentAttempt_ser9 h, requestTrace, h]
    rfl
  | pjon =>
    rw [State.sentAttempt_pjon h, requestTrace, h]
    rfl

/-- Settles O56: an exchange with no retry left, or whose failure is none to retry, fails; any other makes its next
attempt. -/
theorem exchangeRetryDecision : Obligations.ExchangeRetryDecision := by
  intro s r k info hx hr
  refine ⟨receiveEnded_failed hx hr, fun hk hlt hrxq => ?_, fun hk hlt => ⟨fun cs htransport hcs => ?_,
    fun bs htransport hbs => ?_⟩, ?_⟩
  · have hretryable : k.retryable = true := by
      revert hk
      cases k <;> decide
    intro u
    have hu : u = (xchRetry k info s).sentAttempt := by
      rw [show u = receiveEnded (s, some r) from rfl, receiveEnded_retried hx hr hretryable hlt,
        xchAttempt_of_empty (s := xchRetry k info s) hrxq, receiveEnded_none]
    have hline : u.lineTx = s.lineTx ++ requestTrace s.cfg (bytes48 s.xchReq) := by
      rw [hu, sentAttempt_lineTx]
      rfl
    cases htransport : s.cfg.transport with
    | ser9 =>
      rw [State.sentAttempt_ser9 (s := xchRetry k info s) htransport] at hu
      rw [hu] at hline ⊢
      exact ⟨rfl, rfl, rfl, rfl, rfl, rfl, rfl, rfl, rfl, rfl, rfl, hline, rfl, hrxq, fun _ => ⟨rfl, rfl, rfl⟩,
        fun h => by cases h⟩
    | pjon =>
      rw [State.sentAttempt_pjon (s := xchRetry k info s) htransport] at hu
      rw [hu] at hline ⊢
      exact ⟨rfl, rfl, rfl, rfl, rfl, rfl, rfl, rfl, rfl, rfl, rfl, hline, rfl, hrxq, fun h => (by cases h),
        fun _ => ⟨rfl, rfl⟩⟩
  · rw [receiveEnded_retried hx hr hk hlt, xchAttempt_stale_ser9 (s := xchRetry k info s) htransport hcs,
      receiveEnded_retried (s := { s with rxq := [] }) hx hr hk hlt,
      xchAttempt_of_empty (s := xchRetry k info { s with rxq := [] }) rfl]
    rfl
  · rw [receiveEnded_retried hx hr hk hlt,
      receiveEnded_xchAttempt_stale (s := xchRetry k info s) htransport hbs (drainsAsArriving bs),
      receiveEnded_retried (s := { s with rxq := [] }) hx hr hk hlt,
      xchAttempt_of_empty (s := xchRetry k info { s with rxq := [] }) rfl]
    rfl
  · cases k <;> decide

end Sys2Proof.Machine

/-! Runs over line events: what leads from one state to another with no answer in between. -/

namespace Sys2Proof.Machine

/-- `n` steps lead from `s` to `t`, and `P` holds of every state before `t`. -/
def Leads (P : State → Prop) (n : Nat) (s t : State) : Prop :=
  runSteps n s = .next t ∧ ∀ k, k < n → ∃ w : State, runSteps k s = .next w ∧ P w

section
variable {P Q : State → Prop} {m n : Nat} {s t u : State}

theorem Leads.refl (P : State → Prop) (s : State) : Leads P 0 s s := ⟨rfl, fun _ h => absurd h (Nat.not_lt_zero _)⟩

theorem Leads.step (h : step s = .next t) (hs : P s) : Leads P 1 s t := by
  refine ⟨?_, fun k hk => ⟨s, ?_, hs⟩⟩
  · rw [runSteps, h]
    rfl
  · rw [Nat.lt_one_iff.1 hk]
    rfl

theorem Leads.trans (hst : Leads P m s t) (htu : Leads P n t u) : Leads P (m + n) s u := by
  refine ⟨by rw [runSteps_add hst.1, htu.1], fun k hk => ?_⟩
  rcases Nat.lt_or_ge k m with h | h
  · exact hst.2 k h
  · obtain ⟨w, hw, hP⟩ := htu.2 (k - m) (by omega)
    refine ⟨w, ?_, hP⟩
    rw [show k = m + (k - m) by omega, runSteps_add hst.1, hw]

theorem Leads.mono (h : Leads P n s t) (hPQ : ∀ w, P w → Q w) : Leads Q n s t :=
  ⟨h.1, fun k hk => (h.2 k hk).imp fun w hw => ⟨hw.1, hPQ w hw.2⟩⟩

theorem Leads.congr (h : Leads P m s t) (hmn : m = n) (htu : t = u) : Leads P n s u := hmn ▸ htu ▸ h

/-- A run without an answer over all pending events. -/
theorem Leads.endsIn (h : Leads (fun w => w.rsp = s.rsp) n s t) (hn : n = s.events.length) : s.EndsIn t := by
  subst hn
  exact h

end

/-- `w` still runs a receive of `s`: nothing has been answered and the exchange stands where it stood. -/
structure Awaits (s w : State) : Prop where
  rsp : w.rsp = s.rsp
  xchState : w.xchState = s.xchState
  xchAttempts : w.xchAttempts = s.xchAttempts
  running : w.t9State ≠ .off ∨ w.pjfRxstate = .listen

theorem Awaits.trans {s w x : State} (hsw : Awaits s w) (hwx : Awaits w x) : Awaits s x where
  rsp := hwx.rsp.trans hsw.rsp
  xchState := hwx.xchState.trans hsw.xchState
  xchAttempts := hwx.xchAttempts.trans hsw.xchAttempts
  running := hwx.running

/-- One run after another, where the first ends in a receive that still runs. -/
theorem Leads.trans_awaits {m n : Nat} {s t u : State} (hst : Leads (Awaits s) m s t) (ht : Awaits s t)
    (htu : Leads (Awaits t) n t u) : Leads (Awaits s) (m + n) s u :=
  Leads.trans hst (htu.mono fun _ hw => ht.trans hw)

/-! Ticks that do not expire a timer (R214, R276, R279). -/

theorem ne_one_of_lt_toNat {x : BitVec 32} {n : Nat} (h : n + 1 < x.toNat) : x ≠ 1 := by
  rintro rfl
  have hone : (1 : BitVec 32).toNat = 1 := rfl
  omega

theorem toNat_sub_one {x : BitVec 32} (h : 0 < x.toNat) : (x - 1).toNat = x.toNat - 1 := by
  have hone : (1 : BitVec 32).toNat = 1 := rfl
  rw [BitVec.toNat_sub_of_le (by rw [BitVec.le_def, hone]; omega), hone]

theorem eq_one_of_toNat {x : BitVec 32} (h : x.toNat = 1) : x = 1 := BitVec.eq_of_toNat_eq h

section
variable {s : State} {n : Nat} {rest : List Event}

theorem leads_ticks_pjf (h9 : s.t9State = .off) (hrun : s.pjfRxstate = .listen) (hn : n < s.pjfTimer.toNat)
    (hev : s.events = List.replicate n .tick ++ rest) :
    ∃ tm : BitVec 32, tm.toNat = s.pjfTimer.toNat - n ∧
      Leads (Awaits s) n s { s with events := rest, pjfTimer := tm } := by
  induction n generalizing s with
  | zero =>
    refine ⟨s.pjfTimer, rfl, (Leads.refl _ s).congr rfl ?_⟩
    rw [show rest = s.events from hev.symm]
  | succ n ih =>
    rw [List.replicate_succ, List.cons_append] at hev
    have hstep : step s = .next { s with events := List.replicate n .tick ++ rest, pjfTimer := s.pjfTimer - 1 } := by
      rw [step_tick_pjf h9 hrun (rest := List.replicate n .tick ++ rest) hev,
        pjfTick_of_ne_one (s := { s with events := List.replicate n .tick ++ rest }) (ne_one_of_lt_toNat hn),
        receiveEnded_none]
    have hone := toNat_sub_one (x := s.pjfTimer) (by omega)
    obtain ⟨tm, htm, hleads⟩ := ih
      (s := { s with events := List.replicate n .tick ++ rest, pjfTimer := s.pjfTimer - 1 }) h9 hrun
      (by dsimp only; omega) rfl
    refine ⟨tm, by dsimp only at htm; omega, ?_⟩
    exact ((Leads.step hstep ⟨rfl, rfl, rfl, .inr hrun⟩).trans_awaits ⟨rfl, rfl, rfl, .inr hrun⟩ hleads).congr
      (Nat.add_comm 1 n) rfl

theorem leads_ticks_t9 (hrun : s.t9State ≠ .off) (hn : n < s.t9Timer.toNat)
    (hev : s.events = List.replicate n .tick ++ rest) :
    ∃ tm : BitVec 32, tm.toNat = s.t9Timer.toNat - n ∧
      Leads (Awaits s) n s { s with events := rest, t9Timer := tm } := by
  induction n generalizing s with
  | zero =>
    refine ⟨s.t9Timer, rfl, (Leads.refl _ s).congr rfl ?_⟩
    rw [show rest = s.events from hev.symm]
  | succ n ih =>
    rw [List.replicate_succ, List.cons_append] at hev
    have hstep : step s = .next { s with events := List.replicate n .tick ++ rest, t9Timer := s.t9Timer - 1 } := by
      rw [step_tick_t9 hrun (rest := List.replicate n .tick ++ rest) hev,
        t9Tick_of_ne_one (s := { s with events := List.replicate n .tick ++ rest }) (ne_one_of_lt_toNat hn),
        receiveEnded_none]
    have hone := toNat_sub_one (x := s.t9Timer) (by omega)
    obtain ⟨tm, htm, hleads⟩ := ih
      (s := { s with events := List.replicate n .tick ++ rest, t9Timer := s.t9Timer - 1 }) hrun
      (by dsimp only; omega) rfl
    refine ⟨tm, by dsimp only at htm; omega, ?_⟩
    exact ((Leads.step hstep ⟨rfl, rfl, rfl, .inl hrun⟩).trans_awaits ⟨rfl, rfl, rfl, .inl hrun⟩ hleads).congr
      (Nat.add_comm 1 n) rfl

/-! Silence to the end of the timer. -/

theorem leads_silence_pjf (h9 : s.t9State = .off) (hrun : s.pjfRxstate = .listen) (hn : s.pjfTimer ≠ 0)
    (hev : s.events = List.replicate s.pjfTimer.toNat .tick ++ rest) :
    Leads (Awaits s) s.pjfTimer.toNat s (receiveEnded ({ s with
      events := rest, pjfTimer := 0, pjfRxstate := .off, escState := .hunt
      rxbuf := [], rxtag := [], rxbufValid := false }, some .noValue)) := by
  have hpos : s.pjfTimer.toNat ≠ 0 := fun h => hn (BitVec.eq_of_toNat_eq h)
  obtain ⟨m, hm⟩ := Nat.exists_eq_succ_of_ne_zero hpos
  rw [hm, List.replicate_succ', List.append_assoc] at hev
  obtain ⟨tm, htm, hleads⟩ := leads_ticks_pjf h9 hrun (by omega) hev
  have hlast := step_tick_pjf (s := { s with events := [.tick] ++ rest, pjfTimer := tm }) (rest := rest) h9 hrun rfl
  rw [pjfTick_of_eq_one (s := { s with events := rest, pjfTimer := tm }) (eq_one_of_toNat (show tm.toNat = 1 by omega))] at hlast
  exact (hleads.trans_awaits ⟨rfl, rfl, rfl, .inr hrun⟩ (Leads.step hlast ⟨rfl, rfl, rfl, .inr hrun⟩)).congr hm.symm rfl

/-- The last tick of a 9-bit receive, after all the ticks before it. -/
theorem leads_silence_t9 (hrun : s.t9State ≠ .off) (hn : s.t9Timer ≠ 0)
    (hev : s.events = List.replicate s.t9Timer.toNat .tick ++ rest) :
    Leads (Awaits s) s.t9Timer.toNat s (receiveEnded (t9Tick { s with events := rest, t9Timer := 1 })) := by
  have hpos : s.t9Timer.toNat ≠ 0 := fun h => hn (BitVec.eq_of_toNat_eq h)
  obtain ⟨m, hm⟩ := Nat.exists_eq_succ_of_ne_zero hpos
  rw [hm, List.replicate_succ', List.append_assoc] at hev
  obtain ⟨tm, htm, hleads⟩ := leads_ticks_t9 hrun (by omega) hev
  have hlast := step_tick_t9 (s := { s with events := [.tick] ++ rest, t9Timer := tm }) (rest := rest) hrun rfl
  rw [eq_one_of_toNat (show tm.toNat = 1 by omega)] at hlast hleads
  exact (hleads.trans_awaits ⟨rfl, rfl, rfl, .inl hrun⟩ (Leads.step hlast ⟨rfl, rfl, rfl, .inl hrun⟩)).congr hm.symm rfl

theorem leads_silence_waitFirst (hrun : s.t9State = .waitFirst) (hn : s.t9Timer ≠ 0)
    (hev : s.events = List.replicate s.t9Timer.toNat .tick ++ rest) :
    Leads (Awaits s) s.t9Timer.toNat s (receiveEnded
      ({ s with events := rest, t9Timer := 0, t9State := .off }, some .noValue)) := by
  have hleads := leads_silence_t9 (by rw [hrun]; decide) hn hev
  rwa [t9Tick_waitFirst (s := { s with events := rest, t9Timer := 1 }) rfl hrun] at hleads

end

theorem runSteps_one {s t : State} (h : step s = .next t) : runSteps 1 s = .next t := by
  rw [runSteps, h]
  rfl

theorem Awaits.not_idle {s w : State} (h : Awaits s w) : ¬ w.Idle := by
  rintro ⟨-, h9, hp⟩
  rcases h.running with hrun | hrun
  · exact hrun h9
  · rw [hp] at hrun
    cases hrun

/-- The command that starts a receive, and what the receive then leads to. -/
theorem runSteps_started {s w u : State} {n : Nat} (hstep : step s = .next w) (hrsp : w.rsp = s.rsp)
    (hleads : Leads (Awaits w) n w u) :
    (∀ k, k < n → ∃ x : State, runSteps (1 + k) s = .next x ∧ x.rsp = s.rsp ∧ ¬ x.Idle) ∧
      runSteps (1 + n) s = .next u := by
  refine ⟨fun k hk => ?_, by rw [runSteps_add (runSteps_one hstep), hleads.1]⟩
  obtain ⟨x, hx, hawaits⟩ := hleads.2 k hk
  exact ⟨x, by rw [runSteps_add (runSteps_one hstep), hx], hawaits.rsp.trans hrsp, hawaits.not_idle⟩

/-- The command that starts a receive, as the first step of a run without an answer. -/
theorem endsIn_of_started {s w u : State} {n : Nat} (hstep : step s = .next w) (hrsp : w.rsp = s.rsp)
    (hleads : Leads (Awaits w) n w u) (hn : 1 + n = s.events.length) : s.EndsIn u :=
  ((Leads.step (P := fun x => x.rsp = s.rsp) hstep rfl).trans
    (hleads.mono fun _ hx => hx.rsp.trans hrsp)).endsIn hn

/-! The first step: the command of a stand-alone receive, with nothing waiting. -/

section
variable {s : State} {t : BitVec 32} {e : Option (BitVec 16)} {rest : List Event} (hidle : s.Idle) (ht : t ≠ 0)
  (he : e ≠ some 0xFFFF) (hrxq : s.rxq = [])
include hidle ht he hrxq

theorem step_t9Recv (hev : s.events = .cmd (encode (.t9Recv t e)) :: rest) : step s = .next { s with
    events := rest, t9State := .waitFirst, t9Timer := t, t9Explen := e, t9Ovf := false
    rxbuf := [], rxtag := [], rxbufValid := false } := by
  rw [step_cmd_encode (i := .t9Recv t e) ((explenFits_iff e).2 he) hev,
    exec_t9Recv_of_legal (s := { s with events := rest }) ((State.idle_withEvents s rest).2 hidle) ht,
    t9Start_of_empty (s := { s with events := rest }) hrxq]

theorem step_pjonRecv (hev : s.events = .cmd (encode (.pjonRecv t e)) :: rest) : step s = .next { s with
    events := rest, pjfRxstate := .listen, pjfTimer := t, pjfTimeout := t, escState := .hunt
    rxbuf := [], rxtag := [], rxbufValid := false } := by
  rw [step_cmd_encode (i := .pjonRecv t e) ((explenFits_iff e).2 he) hev,
    exec_pjonRecv_of_legal (s := { s with events := rest }) ((State.idle_withEvents s rest).2 hidle) ht,
    pjfStart_of_empty (s := { s with events := rest }) hrxq, receiveEnded_none]

end

/-- Settles O42: the receive is started, and its timer runs out. -/
theorem silentReceiveTimesOut : Obligations.SilentReceiveTimesOut := by
  intro s t e i hidle ht he hrxq hi hev
  rcases hi with rfl | rfl
  · obtain ⟨hbefore, hlast⟩ := runSteps_started (step_t9Recv hidle ht he hrxq hev) rfl
      (leads_silence_waitFirst (rest := []) rfl ht (List.append_nil _).symm)
    refine ⟨hbefore, _, hlast, ?_⟩
    rw [receiveEnded_standalone, State.answer_noValue]
    · exact ⟨rfl, ⟨hidle.1, rfl, hidle.2.2⟩, rfl, rfl, rfl, rfl⟩
    · exact State.not_awaiting_of_resting (s := s) hidle.1
  · obtain ⟨hbefore, hlast⟩ := runSteps_started (step_pjonRecv hidle ht he hrxq hev) rfl
      (leads_silence_pjf (rest := []) hidle.2.1 rfl ht (List.append_nil _).symm)
    refine ⟨hbefore, _, hlast, ?_⟩
    rw [receiveEnded_standalone, State.answer_noValue]
    · exact ⟨rfl, ⟨hidle.1, hidle.2.1, rfl⟩, rfl, rfl, rfl, rfl⟩
    · exact State.not_awaiting_of_resting (s := s) hidle.1

end Sys2Proof.Machine

/-! Whole PJON receives over paced bytes (spec/43_pjon_frame.md R214, spec/42_pjon_escape.md R188). -/

namespace Sys2Proof.Machine

/-- A receive of the PJON transport that listens, its timer full, its capture not readable. -/
structure Hears (s : State) : Prop where
  t9 : s.t9State = .off
  pjf : s.pjfRxstate = .listen
  timer : s.pjfTimer = s.pjfTimeout
  invalid : s.rxbufValid = false

theorem Hears.awaits {s : State} (h : Hears s) : Awaits s s := ⟨rfl, rfl, rfl, .inr h.pjf⟩

theorem Hears.with_events {s : State} (h : Hears s) (es : List Event) :
    { s with events := es, pjfTimer := s.pjfTimeout } = { s with events := es } := by
  rw [← h.timer]

@[simp] theorem pacedBytes_nil : pacedBytes [] = [] := rfl

@[simp] theorem pacedBytes_cons (n : Nat) (b : Byte) (l : List (Nat × Byte)) :
    pacedBytes ((n, b) :: l) = List.replicate n .tick ++ .rxByte b :: pacedBytes l := by
  rw [pacedBytes, List.flatMap_cons, List.append_assoc]
  rfl

theorem pacedBytes_append (l m : List (Nat × Byte)) : pacedBytes (l ++ m) = pacedBytes l ++ pacedBytes m :=
  List.flatMap_append

section
variable {s t : State} {n : Nat} {b : Byte} {rest : List Event}

/-- A byte after fewer ticks than the timeout, whatever it does. -/
theorem leads_byte (h : Hears s) (hn : n < s.pjfTimeout.toNat)
    (hev : s.events = List.replicate n .tick ++ .rxByte b :: rest) :
    Leads (Awaits s) (n + 1) s (receiveEnded (pjfByte b { s with events := rest })) := by
  obtain ⟨tm, -, hleads⟩ := leads_ticks_pjf h.t9 h.pjf (by rwa [h.timer]) hev
  have hlast := step_rxByte_pjf (s := { s with events := .rxByte b :: rest, pjfTimer := tm }) (rest := rest) h.pjf rfl
  exact hleads.trans_awaits ⟨rfl, rfl, rfl, .inr h.pjf⟩ (Leads.step hlast ⟨rfl, rfl, rfl, .inr h.pjf⟩)

/-- A byte that the deframer takes without ending the receive. -/
theorem leads_byte_nothing (h : Hears s) (hn : n < s.pjfTimeout.toNat)
    (hev : s.events = List.replicate n .tick ++ .rxByte b :: rest)
    (hd : deframeByte b { s with events := rest } = (t, .nothing)) : Leads (Awaits s) (n + 1) s t := by
  have hleads := leads_byte h hn hev
  rwa [pjfByte_of_nothing (s := { s with events := rest }) (t := t) (by rw [← hd, ← h.with_events]), receiveEnded_none]
    at hleads

/-- A byte that completes a frame. -/
theorem leads_byte_frame (h : Hears s) (hn : n < s.pjfTimeout.toNat)
    (hev : s.events = List.replicate n .tick ++ .rxByte b :: rest) {f : Bytes}
    (hd : deframeByte b { s with events := rest } = (t, .frame f)) :
    Leads (Awaits s) (n + 1) s (pjfEnded (pjonParse f { t with pjfRxstate := .off })) := by
  have hleads := leads_byte h hn hev
  rwa [pjfByte_of_frame (s := { s with events := rest }) (t := t) (by rw [← hd, ← h.with_events])] at hleads

/-- The end of a PJON receive with a malformed frame. -/
def malformedEnded (info : BitVec 16) (t : State) : State :=
  receiveEnded (({ t with pjfRxstate := .off } : State).raise .malformedFrame info, some (.err .malformedFrame info))

/-- A byte that makes the frame malformed. -/
theorem leads_byte_malformed (h : Hears s) (hn : n < s.pjfTimeout.toNat)
    (hev : s.events = List.replicate n .tick ++ .rxByte b :: rest) {info : BitVec 16}
    (hd : deframeByte b { s with events := rest } = (t, .malformed info)) :
    Leads (Awaits s) (n + 1) s (malformedEnded info t) := by
  have hleads := leads_byte h hn hev
  rwa [pjfByte_of_malformed (s := { s with events := rest }) (t := t) (by rw [← hd, ← h.with_events])] at hleads

end

/-- The length of the run over paced bytes, one after another. -/
theorem pacedBytes_cons_length (n : Nat) (b : Byte) (l : List (Nat × Byte)) :
    (pacedBytes ((n, b) :: l)).length = n + 1 + (pacedBytes l).length := by
  rw [pacedBytes_cons, List.length_append, List.length_replicate, List.length_cons]
  omega

/-- A state in the body of a frame that has stored the bytes `g` behind those it had. -/
def State.storedRx (g : Bytes) (s : State) : State :=
  { s with
    rxbuf := s.rxbuf ++ g, rxtag := s.rxtag ++ List.replicate g.length false, rxbufValid := false, escState := .body }

theorem State.storedRx_nil {s : State} (hbody : s.escState = .body) (hinvalid : s.rxbufValid = false) :
    s.storedRx [] = s := by
  rw [State.storedRx, List.append_nil, List.length_nil, List.replicate_zero, List.append_nil, ← hbody, ← hinvalid]

theorem State.storedRx_cons (d : Byte) (g : Bytes) (s : State) :
    ({ s.appendRx false d with escState := .body } : State).storedRx g = s.storedRx (d :: g) := by
  rw [State.storedRx, State.storedRx, State.appendRx, List.append_assoc, List.append_assoc]
  rfl

/-- An image of one byte in the body of a frame is stored as that byte. -/
theorem leads_escapeByte {d : Byte} {l : List (Nat × Byte)} {s : State} {rest : List Event}
    (hl : l.map Prod.snd = escapeByte d) (hpace : ∀ x ∈ l, x.1 < s.pjfTimeout.toNat) (h : Hears s)
    (hbody : s.escState = .body) (hroom : s.rxbuf.length < s.params.maxbuf) (hev : s.events = pacedBytes l ++ rest) :
    Leads (Awaits s) (pacedBytes l).length s
      { ({ s with events := rest } : State).appendRx false d with escState := .body } := by
  rcases escapeByte_copy_or_pair d with ⟨hstart, hend, hesc, he⟩ | ⟨c, hstart, hend, rfl, he⟩ <;> rw [he] at hl
  · obtain ⟨⟨n, b⟩, l', rfl, rfl, hl'⟩ := List.map_eq_cons_iff.1 hl
    cases List.map_eq_nil_iff.1 hl'
    refine (leads_byte_nothing h (hpace _ (List.mem_cons_self ..)) (b := b) (rest := rest) ?_ ?_).congr
      (pacedBytes_cons_length n b []).symm rfl
    · rw [hev, pacedBytes_cons, List.append_assoc]
      rfl
    · exact (deframeByte_body_copy (s := { s with events := rest }) hbody hstart hend hesc).trans
        (deframeStore_of_lt (s := { s with events := rest }) hroom b)
  · obtain ⟨⟨n, b⟩, l', rfl, rfl, hl'⟩ := List.map_eq_cons_iff.1 hl
    obtain ⟨⟨m, b'⟩, l'', rfl, rfl, hl''⟩ := List.map_eq_cons_iff.1 hl'
    cases List.map_eq_nil_iff.1 hl''
    have hesc := leads_byte_nothing h (hpace _ (List.mem_cons_self ..)) (b := 0xBB)
      (rest := List.replicate m .tick ++ .rxByte b' :: rest)
      (by rw [hev, pacedBytes_cons, pacedBytes_cons, List.append_assoc, List.cons_append, List.append_assoc]; rfl)
      (deframeByte_body_esc (s := { s with events := _ }) hbody)
    have hpair := leads_byte_nothing (b := b')
      (s := { s with events := List.replicate m .tick ++ .rxByte b' :: rest, escState := .escaped })
      ⟨h.t9, h.pjf, h.timer, h.invalid⟩ (hpace _ (List.mem_cons_of_mem _ (List.mem_cons_self ..))) rfl
      ((deframeByte_escaped_pair rfl hstart hend).trans
        (deframeStore_of_lt (s := { s with events := rest, escState := .escaped }) hroom _))
    exact (hesc.trans_awaits ⟨rfl, rfl, rfl, .inr h.pjf⟩ hpair).congr
      (by rw [pacedBytes_cons_length, pacedBytes_cons_length]; rfl) rfl

theorem map_snd_eq_append {l : List (Nat × Byte)} {p q : Bytes} (h : l.map Prod.snd = p ++ q) :
    ∃ l₁ l₂, l = l₁ ++ l₂ ∧ l₁.map Prod.snd = p ∧ l₂.map Prod.snd = q :=
  List.map_eq_append_iff.1 h

/-- An escaped string in the body of a frame is stored byte by byte. -/
theorem leads_escape (g : Bytes) {l : List (Nat × Byte)} {s : State} {rest : List Event} (hl : l.map Prod.snd = escape g)
    (hpace : ∀ x ∈ l, x.1 < s.pjfTimeout.toNat) (h : Hears s) (hbody : s.escState = .body)
    (hroom : s.rxbuf.length + g.length ≤ s.params.maxbuf) (hev : s.events = pacedBytes l ++ rest) :
    Leads (Awaits s) (pacedBytes l).length s (({ s with events := rest } : State).storedRx g) := by
  induction g generalizing l s with
  | nil =>
    cases List.map_eq_nil_iff.1 hl
    rw [State.storedRx_nil (s := { s with events := rest }) hbody h.invalid]
    refine (Leads.refl _ s).congr rfl ?_
    rw [show rest = s.events from hev.symm]
  | cons d g ih =>
    rw [escape, List.flatMap_cons] at hl
    obtain ⟨l₁, l₂, rfl, hl₁, hl₂⟩ := map_snd_eq_append hl
    rw [pacedBytes_append, List.append_assoc] at hev
    rw [List.length_cons] at hroom
    have hfirst := leads_escapeByte hl₁ (fun x hx => hpace x (List.mem_append_left _ hx)) h hbody (by omega) hev
    have hrest := ih (s := { ({ s with events := pacedBytes l₂ ++ rest } : State).appendRx false d with escState := .body })
      hl₂ (fun x hx => hpace x (List.mem_append_right _ hx)) ⟨h.t9, h.pjf, h.timer, rfl⟩ rfl
      (by simp only [State.appendRx, List.length_append, List.length_singleton]; omega) rfl
    exact (hfirst.trans_awaits ⟨rfl, rfl, rfl, .inr h.pjf⟩ hrest).congr
      (by rw [pacedBytes_append, List.length_append]) (State.storedRx_cons d g { s with events := rest })

section
variable {s : State} {l : List (Nat × Byte)} {rest : List Event} (hpace : ∀ x ∈ l, x.1 < s.pjfTimeout.toNat) (h : Hears s)
  (hev : s.events = pacedBytes l ++ rest)
include hpace h hev

/-- `START` and an escaped string that fits, whatever the deframer did before. -/
theorem leads_partial {g : Bytes} (hl : l.map Prod.snd = 0x95 :: escape g) (hg : g.length ≤ s.params.maxbuf) :
    Leads (Awaits s) (pacedBytes l).length s { s with
      events := rest, rxbuf := g, rxtag := List.replicate g.length false, rxbufValid := false, escState := .body } := by
  obtain ⟨⟨n, b⟩, l', rfl, rfl, hl'⟩ := List.map_eq_cons_iff.1 hl
  rw [pacedBytes_cons, List.append_assoc] at hev
  have hstart := leads_byte_nothing h (hpace _ (List.mem_cons_self ..)) hev (deframeByte_start _)
  have hbody := leads_escape g (rest := rest)
    (s := { ({ s with events := pacedBytes l' ++ rest } : State).clearRx with escState := .body })
    hl' (fun x hx => hpace x (List.mem_cons_of_mem _ hx)) ⟨h.t9, h.pjf, h.timer, rfl⟩ rfl
    ((Nat.zero_add g.length).trans_le hg) rfl
  exact (hstart.trans_awaits ⟨rfl, rfl, rfl, .inr h.pjf⟩ hbody).congr
    (pacedBytes_cons_length n 0x95 l').symm rfl

/-- An escaped string in the body, and one byte more that leads on from there. -/
theorem leads_partial_then {g : Bytes} (hg : g.length ≤ s.params.maxbuf) {l₁ l₂ : List (Nat × Byte)} (hl : l = l₁ ++ l₂)
    (hl₁ : l₁.map Prod.snd = 0x95 :: escape g) {n : Nat} {u : State}
    (hthen : ∀ t : State, t = { s with
        events := pacedBytes l₂ ++ rest, rxbuf := g, rxtag := List.replicate g.length false, rxbufValid := false
        escState := .body } → Hears t → Leads (Awaits t) n t u) (hn : n = (pacedBytes l₂).length) :
    Leads (Awaits s) (pacedBytes l).length s u := by
  subst hl
  rw [pacedBytes_append, List.append_assoc] at hev
  have hfirst := leads_partial (fun x hx => hpace x (List.mem_append_left _ hx)) h hev hl₁ hg
  exact (hfirst.trans_awaits ⟨rfl, rfl, rfl, .inr h.pjf⟩ (hthen _ rfl ⟨h.t9, h.pjf, h.timer, rfl⟩)).congr
    (by rw [pacedBytes_append, List.length_append, hn]) rfl

/-- A wrapped frame ends the receive at its last byte, with the parse of the frame (R214). -/
theorem leads_wrap {f : Bytes} (hl : l.map Prod.snd = sfspWrap f) (hf : f.length ≤ s.params.maxbuf) :
    Leads (Awaits s) (pacedBytes l).length s (pjfEnded (pjonParse f { s with
      events := rest, rxbuf := f, rxtag := List.replicate f.length false, rxbufValid := false
      escState := .hunt, pjfRxstate := .off })) := by
  obtain ⟨l₁, l₂, hsplit, hl₁, hl₂⟩ := map_snd_eq_append (p := 0x95 :: escape f) (q := [0xEA]) hl
  obtain ⟨⟨n, b⟩, l', rfl, rfl, hl'⟩ := List.map_eq_cons_iff.1 hl₂
  cases List.map_eq_nil_iff.1 hl'
  have hn : n < s.pjfTimeout.toNat := hpace (n, 0xEA) (by rw [hsplit]; simp)
  refine leads_partial_then hpace h hev hf hsplit hl₁ (n := n + 1) (fun t ht hears => ?_)
    (pacedBytes_cons_length n 0xEA []).symm
  rw [pacedBytes_cons, List.append_assoc] at ht
  subst ht
  exact leads_byte_frame (rest := rest) hears hn rfl (deframeByte_body_end rfl)

/-- `ESC END` behind an escaped string makes the frame malformed. -/
theorem leads_esc_end {g : Bytes} (hl : l.map Prod.snd = 0x95 :: (escape g ++ [0xBB, 0xEA]))
    (hg : g.length ≤ s.params.maxbuf) :
    Leads (Awaits s) (pacedBytes l).length s (malformedEnded (BitVec.ofNat 16 g.length) { s with
      events := rest, rxbuf := [], rxtag := [], rxbufValid := false, escState := .hunt }) := by
  obtain ⟨l₁, l₂, hsplit, hl₁, hl₂⟩ := map_snd_eq_append (p := 0x95 :: escape g) (q := [0xBB, 0xEA]) hl
  obtain ⟨⟨n, b⟩, l', rfl, rfl, hl'⟩ := List.map_eq_cons_iff.1 hl₂
  obtain ⟨⟨m, b'⟩, l'', rfl, rfl, hl''⟩ := List.map_eq_cons_iff.1 hl'
  cases List.map_eq_nil_iff.1 hl''
  have hn : n < s.pjfTimeout.toNat := hpace (n, 0xBB) (by rw [hsplit]; simp)
  have hm : m < s.pjfTimeout.toNat := hpace (m, 0xEA) (by rw [hsplit]; simp)
  refine leads_partial_then hpace h hev hg hsplit hl₁ (n := n + 1 + (m + 1)) (fun t ht hears => ?_)
    (by rw [pacedBytes_cons_length, pacedBytes_cons_length]; rfl)
  rw [pacedBytes_cons, pacedBytes_cons, List.append_assoc, List.cons_append, List.append_assoc] at ht
  subst ht
  have hesc := leads_byte_nothing (b := 0xBB) hears hn rfl (deframeByte_body_esc rfl)
  have hend := leads_byte_malformed (b := 0xEA) (n := m) (rest := rest)
    (s := { s with
      events := List.replicate m .tick ++ .rxByte 0xEA :: rest, rxbuf := g, rxtag := List.replicate g.length false
      rxbufValid := false, escState := .escaped })
    ⟨h.t9, h.pjf, h.timer, rfl⟩ hm rfl (deframeByte_escaped_end rfl)
  exact hesc.trans_awaits ⟨rfl, rfl, rfl, .inr h.pjf⟩ hend

/-- A string of one byte more than the buffer holds overflows it. -/
theorem leads_overflow {g : Bytes} (hl : l.map Prod.snd = 0x95 :: escape g) (hg : g.length = s.params.maxbuf + 1) :
    Leads (Awaits s) (pacedBytes l).length s (malformedEnded (BitVec.ofNat 16 s.params.maxbuf) { s with
      events := rest, rxbuf := [], rxtag := [], rxbufValid := false, escState := .hunt }) := by
  obtain ⟨d, g', rfl⟩ : ∃ d g', g = g' ++ [d] := by
    have hne : g ≠ [] := fun h => by rw [h] at hg; exact absurd hg (by simp)
    exact ⟨g.getLast hne, g.dropLast, (List.dropLast_append_getLast hne).symm⟩
  have hg' : g'.length = s.params.maxbuf := by simpa using hg
  have hlast : escape [d] = escapeByte d := by rw [escape, List.flatMap_cons, List.flatMap_nil, List.append_nil]
  rw [escape_append, hlast] at hl
  obtain ⟨l₁, l₂, hsplit, hl₁, hl₂⟩ := map_snd_eq_append (p := 0x95 :: escape g') (q := escapeByte d) hl
  rcases escapeByte_copy_or_pair d with ⟨hstart, hend, hesc, he⟩ | ⟨c, hstart, hend, rfl, he⟩ <;> rw [he] at hl₂
  · obtain ⟨⟨n, b⟩, l', rfl, rfl, hl'⟩ := List.map_eq_cons_iff.1 hl₂
    cases List.map_eq_nil_iff.1 hl'
    have hn : n < s.pjfTimeout.toNat := hpace (n, b) (by rw [hsplit]; simp)
    refine leads_partial_then hpace h hev hg'.le hsplit hl₁ (n := n + 1) (fun t ht hears => ?_)
      (pacedBytes_cons_length n b []).symm
    rw [pacedBytes_cons, List.append_assoc] at ht
    subst ht
    exact leads_byte_malformed (rest := rest) hears hn rfl
      ((deframeByte_body_copy rfl hstart hend hesc).trans (deframeStore_of_full (by exact hg'.ge) b))
  · obtain ⟨⟨n, b⟩, l', rfl, rfl, hl'⟩ := List.map_eq_cons_iff.1 hl₂
    obtain ⟨⟨m, b'⟩, l'', rfl, rfl, hl''⟩ := List.map_eq_cons_iff.1 hl'
    cases List.map_eq_nil_iff.1 hl''
    have hn : n < s.pjfTimeout.toNat := hpace (n, 0xBB) (by rw [hsplit]; simp)
    have hm : m < s.pjfTimeout.toNat := hpace (m, b') (by rw [hsplit]; simp)
    refine leads_partial_then hpace h hev hg'.le hsplit hl₁ (n := n + 1 + (m + 1)) (fun t ht hears => ?_)
      (by rw [pacedBytes_cons_length, pacedBytes_cons_length]; rfl)
    rw [pacedBytes_cons, pacedBytes_cons, List.append_assoc, List.cons_append, List.append_assoc] at ht
    subst ht
    have hesc := leads_byte_nothing (b := 0xBB) hears hn rfl (deframeByte_body_esc rfl)
    have hend := leads_byte_malformed (b := b') (n := m) (rest := rest)
      (s := { s with
        events := List.replicate m .tick ++ .rxByte b' :: rest, rxbuf := g', rxtag := List.replicate g'.length false
        rxbufValid := false, escState := .escaped })
      ⟨h.t9, h.pjf, h.timer, rfl⟩ hm rfl ((deframeByte_escaped_pair rfl hstart hend).trans (deframeStore_of_full (by exact hg'.ge) _))
    exact hesc.trans_awaits ⟨rfl, rfl, rfl, .inr h.pjf⟩ hend

end

theorem malformedEnded_of_resting {t : State} (h : t.xchState = .idle ∨ t.xchState = .done ∨ t.xchState = .failed)
    (info : BitVec 16) :
    malformedEnded info t = ({ t with pjfRxstate := .off } : State).ended .malformedFrame info :=
  (receiveEnded_standalone (s := ({ t with pjfRxstate := .off } : State).raise .malformedFrame info)
    (State.not_awaiting_of_resting h) _).trans (State.answer_raise (s := { t with pjfRxstate := .off }) h _ info)

/-- Settles O41: the command starts the receive, and each kind of input ends it by its own run. -/
theorem pjonRecvDeliversPayload : Obligations.PjonRecvDeliversPayload := by
  intro s t e l tail q hidle ht he hrxq hpace hev hq
  have hstart := step_pjonRecv hidle ht he hrxq hev
  have hlen : s.events.length = 1 + ((pacedBytes l).length + tail.length) := by
    rw [hev, List.length_cons, List.length_append, Nat.add_comm]
  have hq' (f : Bytes) : q f false = { s with
      events := [], rxbuf := f, rxtag := List.replicate f.length false, rxbufValid := false
      escState := .hunt, pjfTimer := t, pjfTimeout := t, pjfRxstate := .off } := by
    rw [hq, ← hidle.2.2]
  have hresting (f : Bytes) (valid : Bool) :
      (q f valid).xchState = .idle ∨ (q f valid).xchState = .done ∨ (q f valid).xchState = .failed := by
    rw [hq]
    exact hidle.1
  have hqidle (f : Bytes) (valid : Bool) : (q f valid).Idle := by
    rw [hq]
    exact hidle
  generalize hw : ({ s with
      events := pacedBytes l ++ tail, pjfRxstate := .listen, pjfTimer := t, pjfTimeout := t, escState := .hunt
      rxbuf := [], rxtag := [], rxbufValid := false } : State) = w at hstart
  have hears : Hears w := by
    rw [← hw]
    exact ⟨hidle.2.1, rfl, rfl, rfl⟩
  have hwev : w.events = pacedBytes l ++ tail := by rw [← hw]
  have hwpace : ∀ x ∈ l, x.1 < w.pjfTimeout.toNat := by rwa [← hw]
  have hwmax : w.params.maxbuf = s.params.maxbuf := by rw [← hw]
  have hends {u : State} (hleads : Leads (Awaits w) (pacedBytes l).length w u) (htail : tail = []) : s.EndsIn u :=
    endsIn_of_started hstart (by rw [← hw]) hleads (by rw [hlen, htail]; rfl)
  have hframe {f : Bytes} (hf : f.length ≤ s.params.maxbuf) (hl : l.map Prod.snd = sfspWrap f) (htail : tail = []) :
      s.EndsIn (pjfEnded (pjonParse f (q f false))) := by
    refine hends ((leads_wrap hwpace hears hwev hl (hwmax.symm ▸ hf)).congr rfl ?_) htail
    rw [hq', ← hw, htail]
  have hmalformed {info : BitVec 16} (hleads : Leads (Awaits w) (pacedBytes l).length w (malformedEnded info { w with
      events := tail, rxbuf := [], rxtag := [], rxbufValid := false, escState := .hunt })) (htail : tail = []) :
      s.EndsIn ((q [] false).ended .malformedFrame info) := by
    refine hends (hleads.congr rfl ?_) htail
    rw [← hw, malformedEnded_of_resting (by exact hidle.1), hq', htail]
    rfl
  refine ⟨fun f hf hl htail => ?_, fun target sender p hmax hp htarget hdata hl htail => ?_, fun g hg hl htail => ?_,
    fun g hg hl htail => ?_, fun g hg hl htail => ?_⟩
  · obtain ⟨v, hexec, hend⟩ := pjfEnded_pjonParse (hqidle f false) f (E := s.EndsIn) (hframe hf hl htail)
    refine ⟨v, hexec, ?_⟩
    have hid : (q f false).cfg.deviceId = s.cfg.deviceId := by rw [hq]
    have hrsp : (q f false).rsp = s.rsp := by rw [hq]
    unfold EndsAsParse at hend
    rw [hid, hrsp] at hend
    exact hend
  · have hverdict : pjonVerdict (q (pjonFrame target sender p) false).cfg.deviceId (pjonFrame target sender p) = none := by
      rw [hq]
      exact pjonVerdict_pjonFrame hp htarget hdata
    obtain ⟨_, c8, c32, hparse⟩ := pjonParse_of_verdict_none hverdict
    have hend := hframe ((pjonFrame_length_le hp target sender).trans hmax) hl htail
    rw [hparse, pjfEnded_value (by exact hresting _ false), pjonFrame_getD_sender, pjonPayload_pjonFrame, hq'] at hend
    exact ⟨_, hend, rfl, rfl, rfl, rfl, rfl, rfl, rfl, rfl, rfl, hrxq, rfl, rfl, rfl, rfl, rfl⟩
  · exact hmalformed (leads_esc_end hwpace hears hwev hl (hwmax.symm ▸ hg)) htail
  · exact hmalformed (hwmax ▸ leads_overflow hwpace hears hwev hl (hwmax.symm ▸ hg)) htail
  · have hpartial := leads_partial hwpace hears hwev hl (hwmax.symm ▸ hg)
    have hwtimer : w.pjfTimer = t := by rw [← hw]
    have hsilence := leads_silence_pjf (rest := []) (s := { w with
      events := tail, rxbuf := g, rxtag := List.replicate g.length false, rxbufValid := false, escState := .body })
      hears.t9 hears.pjf (by rw [hwtimer]; exact ht) (by rw [hwtimer, htail, List.append_nil])
    refine endsIn_of_started hstart (by rw [← hw])
      ((hpartial.trans_awaits ⟨rfl, rfl, rfl, .inr hears.pjf⟩ hsilence).congr rfl ?_)
      (by rw [hlen, htail, List.length_replicate, hwtimer])
    rw [receiveEnded_standalone, State.answer_noValue]
    · rw [← hw, hq']
      rfl
    · rw [← hw]
      exact State.not_awaiting_of_resting hidle.1

end Sys2Proof.Machine

/-! Whole 9-bit receives over paced symbols (spec/45_transport9.md R276 to R285). -/

namespace Sys2Proof.Machine

@[simp] theorem pacedSymbols_nil : pacedSymbols [] = [] := rfl

@[simp] theorem pacedSymbols_cons (n : Nat) (sym : Bool × Byte) (l : List (Nat × Bool × Byte)) :
    pacedSymbols ((n, sym) :: l) =
      List.replicate n .tick ++ .rxChar (symbolChar sym.1 sym.2) :: pacedSymbols l := by
  rw [pacedSymbols, List.flatMap_cons, List.append_assoc]
  rfl

theorem pacedSymbols_cons_length (n : Nat) (sym : Bool × Byte) (l : List (Nat × Bool × Byte)) :
    (pacedSymbols ((n, sym) :: l)).length = n + 1 + (pacedSymbols l).length := by
  rw [pacedSymbols_cons, List.length_append, List.length_replicate, List.length_cons]
  omega

/-- A running 9-bit receive whose capture fits `RXBUF` and is not readable. -/
structure Captures (s : State) : Prop where
  running : s.t9State ≠ .off
  fits : s.rxbuf.length ≤ s.params.maxbuf
  tags : s.rxtag.length = s.rxbuf.length
  invalid : s.rxbufValid = false

/-- A 9-bit receive after the symbols `l`: what fits is stored, the rest is dropped, the idle window is open (R278,
R281). -/
def State.captured (l : List (Bool × Byte)) (s : State) : State :=
  { s with
    rxbuf := (s.rxbuf ++ l.map Prod.snd).take s.params.maxbuf
    rxtag := (s.rxtag ++ l.map Prod.fst).take s.params.maxbuf
    rxbufValid := false
    t9Ovf := s.t9Ovf || decide (s.params.maxbuf < s.rxbuf.length + l.length)
    t9State := .collect
    t9Timer := s.cfg.eopIdle }

section
variable {s : State}

/-- One symbol of a running receive. -/
theorem t9Char_symbol (h : Captures s) (sym : Bool × Byte) : t9Char (symbolChar sym.1 sym.2) s = s.captured [sym] := by
  obtain ⟨a, d⟩ := sym
  have hfits := h.fits
  rcases Nat.lt_or_ge s.rxbuf.length s.params.maxbuf with hroom | hfull
  · rw [t9Char_symbol_of_lt hroom, State.captured, List.take_of_length_le, List.take_of_length_le,
      decide_eq_false (by rw [List.length_singleton]; omega), Bool.or_false]
    · rfl
    · rw [List.length_append, h.tags, List.length_map, List.length_singleton]
      omega
    · rw [List.length_append, List.length_map, List.length_singleton]
      omega
  · have hlen : s.params.maxbuf = s.rxbuf.length := by omega
    rw [t9Char_symbol_of_full hfull, State.captured, hlen, List.take_left, ← h.tags, List.take_left,
      decide_eq_true (by rw [List.length_singleton]; omega), Bool.or_true, ← h.invalid]

theorem State.captured_captures (h : Captures s) (l : List (Bool × Byte)) : Captures (s.captured l) where
  running := fun hoff => by cases hoff
  fits := List.length_take_le _ _
  tags := by
    rw [State.captured, List.length_take, List.length_take, List.length_append, List.length_append, h.tags,
      List.length_map, List.length_map]
  invalid := rfl

theorem take_append_take {α : Type} (n : Nat) (p q : List α) : (p.take n ++ q).take n = (p ++ q).take n := by
  rw [List.take_append, List.take_take, Nat.min_self, List.length_take, List.take_append]
  congr 2
  omega

/-- Symbols behind symbols. -/
theorem State.captured_captured (l m : List (Bool × Byte)) (s : State) :
    (s.captured l).captured m = s.captured (l ++ m) := by
  have hovf : (s.t9Ovf || decide (s.params.maxbuf < s.rxbuf.length + l.length) ||
      decide (s.params.maxbuf < ((s.rxbuf ++ l.map Prod.snd).take s.params.maxbuf).length + m.length)) =
      (s.t9Ovf || decide (s.params.maxbuf < s.rxbuf.length + (l ++ m).length)) := by
    rw [Bool.or_assoc, ← Bool.decide_or]
    congr 2
    rw [List.length_take, List.length_append, List.length_append, List.length_map]
    exact propext (by omega)
  simp only [State.captured, take_append_take, List.map_append, List.append_assoc]
  congr 1

theorem Captures.with_timer (h : Captures s) (tm : BitVec 32) (es : List Event) :
    Captures { s with t9Timer := tm, events := es } := ⟨h.running, h.fits, h.tags, h.invalid⟩

/-- A symbol after fewer ticks than the running timer. -/
theorem leads_symbol (h : Captures s) {n : Nat} {sym : Bool × Byte} {rest : List Event} (hn : n < s.t9Timer.toNat)
    (hev : s.events = List.replicate n .tick ++ .rxChar (symbolChar sym.1 sym.2) :: rest) :
    Leads (Awaits s) (n + 1) s (({ s with events := rest } : State).captured [sym]) := by
  obtain ⟨tm, -, hleads⟩ := leads_ticks_t9 h.running hn hev
  have hlast := step_rxChar_t9 (s := { s with events := .rxChar (symbolChar sym.1 sym.2) :: rest, t9Timer := tm })
    (rest := rest) h.running rfl
  rw [t9Char_symbol (h.with_timer tm rest)] at hlast
  exact hleads.trans_awaits ⟨rfl, rfl, rfl, .inl h.running⟩ (Leads.step hlast ⟨rfl, rfl, rfl, .inl h.running⟩)

/-- Paced symbols: the first within the running timer, each other within the idle window. -/
theorem leads_symbols (h : Captures s) {x : Nat × Bool × Byte} {l : List (Nat × Bool × Byte)} {rest : List Event}
    (hfirst : x.1 < s.t9Timer.toNat) (hpace : ∀ y ∈ l, y.1 < s.cfg.eopIdle.toNat)
    (hev : s.events = pacedSymbols (x :: l) ++ rest) :
    Leads (Awaits s) (pacedSymbols (x :: l)).length s
      (({ s with events := rest } : State).captured ((x :: l).map Prod.snd)) := by
  obtain ⟨n, sym⟩ := x
  rw [pacedSymbols_cons, List.append_assoc, List.cons_append] at hev
  have hleads := leads_symbol h hfirst hev
  induction l generalizing s n sym with
  | nil => exact hleads.congr (pacedSymbols_cons_length n sym []).symm rfl
  | cons y l ih =>
    obtain ⟨m, sym'⟩ := y
    have hcaptures : Captures (({ s with events := pacedSymbols ((m, sym') :: l) ++ rest } : State).captured [sym]) :=
      State.captured_captures (s := { s with events := pacedSymbols ((m, sym') :: l) ++ rest })
        ⟨h.running, h.fits, h.tags, h.invalid⟩ [sym]
    have hev' : (({ s with events := pacedSymbols ((m, sym') :: l) ++ rest } : State).captured [sym]).events =
        List.replicate m .tick ++ (.rxChar (symbolChar sym'.1 sym'.2) :: (pacedSymbols l ++ rest)) := by
      rw [← List.cons_append, ← List.append_assoc, ← pacedSymbols_cons]
      rfl
    have hm : m < s.cfg.eopIdle.toNat := hpace (m, sym') (List.mem_cons_self ..)
    have hrest := ih hcaptures (fun y hy => hpace y (List.mem_cons_of_mem _ hy)) m sym' hm hev'
      (leads_symbol hcaptures hm hev')
    refine (hleads.trans_awaits ⟨rfl, rfl, rfl, .inl fun hoff => by cases hoff⟩ hrest).congr
      (pacedSymbols_cons_length n sym ((m, sym') :: l)).symm ?_
    exact State.captured_captured [sym] (((m, sym') :: l).map Prod.snd) { s with events := rest }

/-- The end of a 9-bit receive with the outcome of its capture. -/
def t9Ended (t : State) : State := receiveEnded ((t9Finish t).1, some (t9Finish t).2)

/-- Paced symbols, and the idle window after them: the capture is finished at its last tick (R280). -/
theorem leads_capture (h : Captures s) (hidle : s.cfg.eopIdle ≠ 0) {x : Nat × Bool × Byte}
    {l : List (Nat × Bool × Byte)} {rest : List Event} (hfirst : x.1 < s.t9Timer.toNat)
    (hpace : ∀ y ∈ l, y.1 < s.cfg.eopIdle.toNat)
    (hev : s.events = pacedSymbols (x :: l) ++ (List.replicate s.cfg.eopIdle.toNat .tick ++ rest)) :
    Leads (Awaits s) ((pacedSymbols (x :: l)).length + s.cfg.eopIdle.toNat) s
      (t9Ended { ({ s with events := rest } : State).captured ((x :: l).map Prod.snd) with
        t9Timer := 0, t9State := .off }) := by
  have hleads := leads_symbols h hfirst hpace hev
  have hrun : (({ s with events := List.replicate s.cfg.eopIdle.toNat .tick ++ rest } : State).captured
      ((x :: l).map Prod.snd)).t9State ≠ .off := fun hoff => by cases hoff
  have hsilence := leads_silence_t9 hrun hidle (rest := rest) rfl
  rw [t9Tick_collect rfl rfl] at hsilence
  exact hleads.trans_awaits ⟨rfl, rfl, rfl, .inl hrun⟩ hsilence

/-! The outcome of a capture (R282, R284, R285). -/

/-- The capture cut to the expected length. -/
def State.trimmedRx (s : State) : State := s.truncateRx (trimLength s.t9Explen s.rxbuf.length)

theorem t9Finish_of_short (h : s.trimmedRx.rxbuf.length < 3) :
    t9Finish s = (s.trimmedRx.raise .frameTooShort (info16 s.trimmedRx.rxbuf.length),
      .err .frameTooShort (info16 s.trimmedRx.rxbuf.length)) := by
  have hval : chk16Validate s.trimmedRx.rxbuf s.trimmedRx =
      (s.trimmedRx, .err .frameTooShort (info16 s.trimmedRx.rxbuf.length)) := if_pos h
  unfold t9Finish
  dsimp only
  rw [← State.trimmedRx, hval]

theorem t9Finish_of_match {d : Bytes} {hi lo : Byte} (hd : d ≠ []) (h : s.trimmedRx.rxbuf = d ++ [hi, lo])
    (hchk : chk16 d = u16be hi lo) :
    t9Finish s = ({ s.trimmedRx with chk16Acc := chk16 d, rxbufValid := true }, .value d) := by
  have hval : chk16Validate s.trimmedRx.rxbuf s.trimmedRx = ({ s.trimmedRx with chk16Acc := chk16 d }, .value d) := by
    rw [h, chk16Validate_trailer hd, if_pos hchk]
  unfold t9Finish
  dsimp only
  rw [← State.trimmedRx, hval]

theorem t9Finish_of_mismatch {d : Bytes} {hi lo : Byte} (hd : d ≠ []) (h : s.trimmedRx.rxbuf = d ++ [hi, lo])
    (hchk : chk16 d ≠ u16be hi lo) :
    t9Finish s = (({ s.trimmedRx with chk16Acc := chk16 d } : State).raise .checksumMismatch (chk16 d),
      .err .checksumMismatch (chk16 d)) := by
  have hval : chk16Validate s.trimmedRx.rxbuf s.trimmedRx =
      ({ s.trimmedRx with chk16Acc := chk16 d }, .err .checksumMismatch (chk16 d)) := by
    rw [h, chk16Validate_trailer hd, if_neg hchk]
  unfold t9Finish
  dsimp only
  rw [← State.trimmedRx, hval]

section
variable (hrest : s.xchState = .idle ∨ s.xchState = .done ∨ s.xchState = .failed)
include hrest

theorem t9Ended_of_short (h : s.trimmedRx.rxbuf.length < 3) :
    t9Ended s = s.trimmedRx.ended .frameTooShort (info16 s.trimmedRx.rxbuf.length) := by
  rw [t9Ended, t9Finish_of_short h]
  exact (receiveEnded_standalone (s := s.trimmedRx.raise .frameTooShort (info16 s.trimmedRx.rxbuf.length))
    (State.not_awaiting_of_resting hrest) _).trans (State.answer_raise (s := s.trimmedRx) hrest _ _)

theorem t9Ended_of_match {d : Bytes} {hi lo : Byte} (hd : d ≠ []) (h : s.trimmedRx.rxbuf = d ++ [hi, lo])
    (hchk : chk16 d = u16be hi lo) :
    t9Ended s = ({ s.trimmedRx with chk16Acc := chk16 d, rxbufValid := true } : State).answered (valueRsp d) := by
  rw [t9Ended, t9Finish_of_match hd h hchk]
  exact (receiveEnded_standalone (s := { s.trimmedRx with chk16Acc := chk16 d, rxbufValid := true })
    (State.not_awaiting_of_resting hrest) _).trans (State.answer_value _ _)

theorem t9Ended_of_mismatch {d : Bytes} {hi lo : Byte} (hd : d ≠ []) (h : s.trimmedRx.rxbuf = d ++ [hi, lo])
    (hchk : chk16 d ≠ u16be hi lo) :
    t9Ended s = ({ s.trimmedRx with chk16Acc := chk16 d } : State).ended .checksumMismatch (chk16 d) := by
  rw [t9Ended, t9Finish_of_mismatch hd h hchk]
  exact (receiveEnded_standalone (s := ({ s.trimmedRx with chk16Acc := chk16 d } : State).raise .checksumMismatch
    (chk16 d)) (State.not_awaiting_of_resting hrest) _).trans
    (State.answer_raise (s := { s.trimmedRx with chk16Acc := chk16 d }) hrest _ _)

end

end

theorem take_trimLength (e : Option (BitVec 16)) (f : Bytes) : f.take (trimLength e f.length) = match e with
    | some v => f.take (v.toNat + 2)
    | none => f := by
  cases e with
  | none => exact List.take_length
  | some v => rw [trimLength, Nat.min_comm, ← List.take_eq_take_min]

/-- The symbols of a frame, with no tick in between, are its characters. -/
theorem pacedSymbols_t9Symbols (f : Bytes) :
    pacedSymbols ((t9Symbols f).map fun sym => (0, sym)) = (frameChars f).map .rxChar := by
  have hplain (l : List (Bool × Byte)) :
      pacedSymbols (l.map fun sym => (0, sym)) = l.map fun sym => .rxChar (symbolChar sym.1 sym.2) := by
    induction l with
    | nil => rfl
    | cons sym l ih =>
      rw [List.map_cons, pacedSymbols_cons, ih]
      rfl
  rw [hplain]
  cases f with
  | nil => rfl
  | cons b bs =>
    rw [t9Symbols, frameChars, List.map_cons, List.map_cons, List.map_map, List.map_map]
    rfl

theorem map_snd_t9Symbols (f : Bytes) : (t9Symbols f).map Prod.snd = f := by
  cases f with
  | nil => rfl
  | cons b bs =>
    rw [t9Symbols, List.map_cons, List.map_map]
    exact congrArg (b :: ·) (List.map_id' bs)

theorem map_fst_t9Symbols (b : Byte) (bs : Bytes) :
    (t9Symbols (b :: bs)).map Prod.fst = true :: List.replicate bs.length false := by
  rw [t9Symbols, List.map_cons, List.map_map]
  exact congrArg (true :: ·) List.map_const'

/-- What a capture of the symbols `l` is cut to under the expected length `e`. -/
def trimmedCapture (max : Nat) (e : Option (BitVec 16)) (l : List (Bool × Byte)) : Bytes :=
  ((l.map Prod.snd).take max).take (trimLength e ((l.map Prod.snd).take max).length)

theorem captured_trimmedRx {s : State} (hrx : s.rxbuf = []) (htag : s.rxtag = []) (l : List (Bool × Byte)) :
    ({ s.captured l with t9Timer := 0, t9State := .off } : State).trimmedRx = { s with
      rxbuf := trimmedCapture s.params.maxbuf s.t9Explen l
      rxtag := (l.map Prod.fst).take (trimmedCapture s.params.maxbuf s.t9Explen l).length
      rxbufValid := false, t9Ovf := s.t9Ovf || decide (s.params.maxbuf < l.length), t9Timer := 0, t9State := .off } := by
  have htags : ((l.map Prod.fst).take s.params.maxbuf).take
      (trimLength s.t9Explen ((l.map Prod.snd).take s.params.maxbuf).length) =
      (l.map Prod.fst).take (trimmedCapture s.params.maxbuf s.t9Explen l).length := by
    rw [trimmedCapture, List.take_take]
    generalize trimLength _ _ = n
    rw [List.length_take, List.length_take, List.length_map, ← Nat.min_assoc, ← List.length_map (f := Prod.fst),
      ← List.take_eq_take_min]
  simp only [State.trimmedRx, State.truncateRx, State.captured, hrx, htag, List.nil_append, List.length_nil,
    Nat.zero_add, htags, trimmedCapture]

/-- The symbols of a frame that fits are captured whole, unless fewer were expected. -/
theorem trimmedCapture_t9Symbols {max : Nat} {e : Option (BitVec 16)} {f : Bytes} (hfit : f.length ≤ max)
    (he : ∀ v, e = some v → f.length ≤ v.toNat + 2) : trimmedCapture max e (t9Symbols f) = f := by
  rw [trimmedCapture, map_snd_t9Symbols, List.take_of_length_le hfit, take_trimLength]
  cases e with
  | none => rfl
  | some v => exact List.take_of_length_le (he v rfl)

/-- A whole stand-alone receive, up to the end of its capture. -/
theorem endsIn_t9Recv {s : State} {t : BitVec 32} {e : Option (BitVec 16)} {x : Nat × Bool × Byte}
    {l : List (Nat × Bool × Byte)} (hidle : s.Idle) (ht : t ≠ 0) (he : e ≠ some 0xFFFF) (hrxq : s.rxq = [])
    (heop : s.cfg.eopIdle ≠ 0) (hfirst : x.1 < t.toNat) (hpace : ∀ y ∈ l, y.1 < s.cfg.eopIdle.toNat)
    (hev : s.events =
      .cmd (encode (.t9Recv t e)) :: (pacedSymbols (x :: l) ++ List.replicate s.cfg.eopIdle.toNat .tick)) :
    ∃ u : State, s.EndsIn (t9Ended u) ∧ u.trimmedRx = { s with
      events := []
      rxbuf := trimmedCapture s.params.maxbuf e ((x :: l).map Prod.snd)
      rxtag := (((x :: l).map Prod.snd).map Prod.fst).take
        (trimmedCapture s.params.maxbuf e ((x :: l).map Prod.snd)).length
      rxbufValid := false, t9Timer := 0, t9State := .off, t9Explen := e
      t9Ovf := decide (s.params.maxbuf < (x :: l).length) } := by
  have hleads := leads_capture (x := x) (l := l) (rest := []) (s := { s with
      events := pacedSymbols (x :: l) ++ List.replicate s.cfg.eopIdle.toNat .tick
      t9State := .waitFirst, t9Timer := t, t9Explen := e, t9Ovf := false, rxbuf := [], rxtag := [], rxbufValid := false })
    ⟨(fun hoff => by cases hoff), Nat.zero_le _, rfl, rfl⟩ heop hfirst hpace (by rw [List.append_nil])
  refine ⟨_, endsIn_of_started (step_t9Recv hidle ht he hrxq hev) rfl hleads ?_, ?_⟩
  · rw [hev, List.length_cons, List.length_append, List.length_replicate, Nat.add_comm]
  · rw [captured_trimmedRx rfl rfl, Bool.false_or, List.length_map]

/-- Settles O51: the capture's end by its three outcomes; a peer's characters are a capture that fits. -/
theorem nineBitReceiveDeliversData : Obligations.NineBitReceiveDeliversData := by
  constructor
  · intro s t e l captured g q hidle ht he hrxq heop hl hfirst hpace hev hcaptured hg hq
    obtain ⟨x, l, rfl⟩ := List.exists_cons_of_ne_nil hl
    obtain ⟨u, hends, hu⟩ := endsIn_t9Recv (x := x) (l := l) hidle ht he hrxq heop (hfirst x rfl) hpace hev
    have hcapture : trimmedCapture s.params.maxbuf e ((x :: l).map Prod.snd) = g := by
      rw [trimmedCapture, take_trimLength, hg, hcaptured, List.map_map]
      rfl
    have hq' : u.trimmedRx = q s.chk16Acc false := by
      rw [hu, hq, hcapture, List.map_map, ← hidle.2.1]
      rfl
    have hrest : u.xchState = .idle ∨ u.xchState = .done ∨ u.xchState = .failed := by
      have hx : u.trimmedRx.xchState = s.xchState := by rw [hu]
      exact hx ▸ hidle.1
    have hrx : u.trimmedRx.rxbuf = g := by rw [hu, ← hcapture]
    refine ⟨fun hshort => ?_, fun d hi lo hd hgd => ⟨fun hchk => ?_, fun hchk => ?_⟩⟩
    · rw [t9Ended_of_short hrest (hrx.symm ▸ hshort), hrx, hq'] at hends
      exact hends
    · rw [t9Ended_of_match hrest hd (hrx.trans hgd) hchk, hq', hq] at hends
      rw [hq]
      exact hends
    · rw [t9Ended_of_mismatch hrest hd (hrx.trans hgd) hchk, hq', hq] at hends
      rw [hq]
      exact hends
  · intro s t e d hidle ht he hrxq heop hd hfit hexp hev
    generalize hf : d ++ be16 (chk16 d) = f at hev ⊢
    have hflen : f.length = d.length + 2 := by
      rw [← hf, List.length_append]
      rfl
    obtain ⟨b, bs, rfl⟩ : ∃ b bs, f = b :: bs := List.exists_cons_of_ne_nil (by rintro rfl; simp at hflen)
    have hsyms : t9Symbols (b :: bs) = (true, b) :: bs.map fun c => (false, c) := rfl
    rw [← pacedSymbols_t9Symbols, hsyms, List.map_cons] at hev
    obtain ⟨u, ⟨hruns, -⟩, hu⟩ := endsIn_t9Recv hidle ht he hrxq heop (BitVec.toNat_pos_of_ne_zero ht)
      (by simpa using fun _ _ => BitVec.toNat_pos_of_ne_zero heop) hev
    have hsnd : ((0, (true, b)) :: (bs.map fun c => (false, c)).map fun sym => (0, sym)).map Prod.snd =
        t9Symbols (b :: bs) := by
      rw [hsyms, List.map_cons, List.map_map]
      exact congrArg _ (List.map_id' _)
    have hcapture : trimmedCapture s.params.maxbuf e (t9Symbols (b :: bs)) = b :: bs :=
      trimmedCapture_t9Symbols (hflen ▸ hfit) fun v hv => by rw [hflen]; exact Nat.add_le_add_right (hexp v hv) 2
    rw [hsnd, hcapture, map_fst_t9Symbols] at hu
    have hrest : u.xchState = .idle ∨ u.xchState = .done ∨ u.xchState = .failed := by
      have hx : u.trimmedRx.xchState = s.xchState := by rw [hu]
      exact hx ▸ hidle.1
    have hend := t9Ended_of_match hrest hd (hi := hi8 (chk16 d)) (lo := lo8 (chk16 d)) (by rw [hu]; exact hf.symm)
      (u16be_hi8_lo8 _).symm
    have hlen : s.events.length = 1 + (d.length + 2) + s.cfg.eopIdle.toNat := by
      have hline : (pacedSymbols ((t9Symbols (b :: bs)).map fun sym => (0, sym))).length = (b :: bs).length := by
        rw [pacedSymbols_t9Symbols, List.length_map, frameChars, List.length_cons, List.length_map, List.length_cons]
      rw [hsyms, List.map_cons] at hline
      rw [hev, List.length_cons, List.length_append, List.length_replicate, hline, hflen]
      omega
    rw [hend, hu, hlen] at hruns
    refine ⟨_, hruns, rfl, rfl, rfl, rfl, rfl, ?_, rfl, ?_, rfl, rfl, hrxq, rfl, rfl, rfl, rfl⟩
    · rw [show d.length + 1 = bs.length from (Nat.succ.inj hflen).symm]
      exact List.take_of_length_le (by simp)
    · refine decide_eq_false (Nat.not_lt.2 ?_)
      rw [List.length_cons, List.length_map, List.length_map, ← List.length_cons, hflen]
      exact hfit

end Sys2Proof.Machine

/-! The attempts of an exchange, one after another (spec/47_exchange.md R323 to R327 and section 3). -/

namespace Sys2Proof.Machine

/-- What an attempt leaves of the state before it: the send and the start of the receive write their own registers. -/
theorem sentAttempt_frame (s : State) : s.sentAttempt = { s.attempted with
    txbuf := s.sentAttempt.txbuf, chk16Acc := s.sentAttempt.chk16Acc, crc8Reg := s.sentAttempt.crc8Reg
    s9Pmode := s.sentAttempt.s9Pmode, lineTx := s.lineTx ++ requestTrace s.cfg (bytes48 s.xchReq)
    rxbuf := [], rxtag := [], rxbufValid := false
    t9State := s.sentAttempt.t9State, t9Timer := s.sentAttempt.t9Timer, t9Explen := s.sentAttempt.t9Explen
    t9Ovf := s.sentAttempt.t9Ovf, escState := s.sentAttempt.escState, pjfRxstate := s.sentAttempt.pjfRxstate
    pjfTimer := s.sentAttempt.pjfTimer, pjfTimeout := s.sentAttempt.pjfTimeout } := by
  rw [← sentAttempt_lineTx]
  cases h : s.cfg.transport with
  | ser9 => rw [State.sentAttempt_ser9 h]; rfl
  | pjon => rw [State.sentAttempt_pjon h]; rfl

section
variable (s : State)

theorem State.sentAttempt_cfg : s.sentAttempt.cfg = s.cfg := by rw [sentAttempt_frame]; rfl
theorem State.sentAttempt_params : s.sentAttempt.params = s.params := by rw [sentAttempt_frame]; rfl
theorem State.sentAttempt_rsp : s.sentAttempt.rsp = s.rsp := by rw [sentAttempt_frame]; rfl
theorem State.sentAttempt_xchResp : s.sentAttempt.xchResp = s.xchResp := by rw [sentAttempt_frame]; rfl
theorem State.sentAttempt_xchRetries : s.sentAttempt.xchRetries = s.xchRetries := by rw [sentAttempt_frame]; rfl
theorem State.sentAttempt_xchOp : s.sentAttempt.xchOp = s.xchOp := by rw [sentAttempt_frame]; rfl
theorem State.sentAttempt_xchReq : s.sentAttempt.xchReq = s.xchReq := by rw [sentAttempt_frame]; rfl
theorem State.sentAttempt_xchExplen : s.sentAttempt.xchExplen = s.xchExplen := by rw [sentAttempt_frame]; rfl
theorem State.sentAttempt_xchState : s.sentAttempt.xchState = .awaitingResponse := by rw [sentAttempt_frame]; rfl
theorem State.sentAttempt_xchAttempts : s.sentAttempt.xchAttempts = s.xchAttempts + 1 := by rw [sentAttempt_frame]; rfl

end

/-- An exchange of `s` about to send its attempt after `n` failures, the last of which was `last`: what its attempts
and their receives keep. -/
structure Sending (s : State) (op : XchOp) (body : Bytes) (e : Option (BitVec 16)) (n : Nat)
    (last : Option (ErrKind × BitVec 16)) (y : State) : Prop where
  cfg : y.cfg = s.cfg
  params : y.params = s.params
  rsp : y.rsp = s.rsp
  op : y.xchOp = op
  req : bytes48 y.xchReq = body
  explen : y.xchExplen = e
  resp : y.xchResp = []
  lasterr : y.xchLasterr = last
  retries : y.xchRetries.toNat = n
  attempts : y.xchAttempts.toNat = n
  lineTx : y.lineTx = s.lineTx ++ (List.replicate n (requestTrace s.cfg body)).flatten
  rxq : y.rxq = []
  t9 : y.t9State = .off
  pjf : y.pjfRxstate = .off

/-- A receive of the attempt of `y` has ended in `t`, with the events `rest` still to come. -/
structure Received (y : State) (rest : List Event) (t : State) : Prop where
  frame : ReceiveFrame { y.sentAttempt with events := rest } t
  rxq : t.rxq = []
  t9 : t.t9State = .off
  pjf : t.pjfRxstate = .off

section
variable {y t : State} {rest : List Event} (h : Received y rest t)
include h

theorem Received.awaiting : t.xchState = .awaitingResponse :=
  h.frame.xchState.trans (State.sentAttempt_xchState y)

theorem Received.cfg : t.cfg = y.cfg := h.frame.cfg.trans (State.sentAttempt_cfg y)

theorem Received.params : t.params = y.params := h.frame.params.trans (State.sentAttempt_params y)

theorem Received.rsp : t.rsp = y.rsp := h.frame.rsp.trans (State.sentAttempt_rsp y)

theorem Received.xchResp : t.xchResp = y.xchResp :=
  h.frame.xchResp.trans (State.sentAttempt_xchResp y)

theorem Received.xchRetries : t.xchRetries = y.xchRetries :=
  h.frame.xchRetries.trans (State.sentAttempt_xchRetries y)

theorem Received.xchAttempts : t.xchAttempts = y.xchAttempts + 1 :=
  h.frame.xchAttempts.trans (State.sentAttempt_xchAttempts y)

theorem Received.lineTx : t.lineTx = y.lineTx ++ requestTrace y.cfg (bytes48 y.xchReq) :=
  h.frame.lineTx.trans (sentAttempt_lineTx y)

theorem Received.events : t.events = rest := congrArg State.events h.frame

theorem Received.xchOp : t.xchOp = y.xchOp :=
  (congrArg State.xchOp h.frame).trans (State.sentAttempt_xchOp y)

theorem Received.xchReq : t.xchReq = y.xchReq :=
  (congrArg State.xchReq h.frame).trans (State.sentAttempt_xchReq y)

theorem Received.xchExplen : t.xchExplen = y.xchExplen :=
  (congrArg State.xchExplen h.frame).trans (State.sentAttempt_xchExplen y)

end

section
variable {s y t : State} {op : XchOp} {body : Bytes} {e : Option (BitVec 16)} {n : Nat}
  {last : Option (ErrKind × BitVec 16)} {rest : List Event}

theorem toNat_add_one_bv8 {x : BitVec 8} (h : x.toNat < 255) : (x + 1).toNat = x.toNat + 1 := by
  rw [BitVec.toNat_add]
  exact Nat.mod_eq_of_lt (by simp; omega)

theorem Sending.attempts_lt (h : Sending s op body e n last y) : n < 256 := h.retries ▸ y.xchRetries.isLt

theorem Sending.attempt_count (h : Sending s op body e n last y) : (y.xchAttempts + 1).toNat = n + 1 := by
  have hone : (1 : BitVec 9).toNat = 1 := rfl
  have hlt := h.attempts_lt
  rw [BitVec.toNat_add, h.attempts, hone]
  exact Nat.mod_eq_of_lt (by omega)

/-- The line after one more attempt. -/
theorem Sending.line_after (h : Sending s op body e n last y) (ht : Received y rest t) :
    t.lineTx = s.lineTx ++ (List.replicate (n + 1) (requestTrace s.cfg body)).flatten := by
  rw [ht.lineTx, h.lineTx, h.cfg, h.req, List.append_assoc, List.replicate_succ', List.flatten_append,
    List.flatten_singleton]

/-- After a failed receive with a retry left the exchange is about to send again. -/
theorem Sending.retry (h : Sending s op body e n last y) (ht : Received y rest t) (hleft : n < s.cfg.retryPacket.toNat)
    (k : ErrKind) (info : BitVec 16) : Sending s op body e (n + 1) (some (k, info)) (xchRetry k info t) where
  cfg := ht.cfg.trans h.cfg
  params := ht.params.trans h.params
  rsp := ht.rsp.trans h.rsp
  op := ht.xchOp.trans h.op
  req := (congrArg bytes48 ht.xchReq).trans h.req
  explen := ht.xchExplen.trans h.explen
  resp := ht.xchResp.trans h.resp
  lasterr := rfl
  retries := by
    have hlimit := s.cfg.retryPacket.isLt
    change (t.xchRetries + 1).toNat = n + 1
    rw [ht.xchRetries, toNat_add_one_bv8 (by rw [h.retries]; omega), h.retries]
  attempts := (congrArg BitVec.toNat ht.xchAttempts).trans h.attempt_count
  lineTx := (show (xchRetry k info t).lineTx = t.lineTx from rfl).trans (h.line_after ht)
  rxq := ht.rxq
  t9 := ht.t9
  pjf := ht.pjf

/-- The exchange tries again: its next attempt is sent. -/
theorem Sending.retried (h : Sending s op body e n last y) (ht : Received y rest t) (hleft : n < s.cfg.retryPacket.toNat)
    {r : OpResult} {k : ErrKind} {info : BitVec 16} (hr : FailsWith r k info) (hk : k.retryable = true) :
    receiveEnded (t, some r) = (xchRetry k info t).sentAttempt := by
  have hlt : t.xchRetries < t.cfg.retryPacket := by
    rw [BitVec.lt_def, ht.xchRetries, ht.cfg, h.retries, h.cfg]
    exact hleft
  rw [receiveEnded_retried ht.awaiting hr hk hlt, xchAttempt_of_empty (s := xchRetry k info t) ht.rxq, receiveEnded_none]

/-- No retry is left: the exchange fails with the error of its last attempt. -/
theorem Sending.failed (h : Sending s op body e n last y) (ht : Received y rest t) (hleft : s.cfg.retryPacket.toNat ≤ n)
    {r : OpResult} {k : ErrKind} {info : BitVec 16} (hr : FailsWith r k info) :
    receiveEnded (t, some r) =
      ({ t with xchState := .failed, xchLasterr := some (k, info) } : State).ended k info := by
  refine receiveEnded_failed ht.awaiting hr (.inr ?_)
  rw [BitVec.le_def, ht.xchRetries, ht.cfg, h.retries, h.cfg]
  exact hleft

end

/-! The receive of one attempt. -/

/-- The events of one attempt lead from its send to the end of its receive with result `r`. -/
structure AttemptEnds (y : State) (evs rest : List Event) (r : OpResult) (t : State) : Prop where
  leads : Leads (Awaits y.sentAttempt) evs.length y.sentAttempt (receiveEnded (t, some r))
  received : Received y rest t

section
variable {y : State} (h9 : y.t9State = .off) (hp : y.pjfRxstate = .off) (hrxq : y.rxq = []) {rest : List Event}
include h9 hp hrxq

/-- Silence for the timeout ends the attempt without a value. -/
theorem attemptEnds_silence (htimeout : y.cfg.rxTimeout ≠ 0)
    (hev : y.events = List.replicate y.cfg.rxTimeout.toNat .tick ++ rest) :
    ∃ t, AttemptEnds y (List.replicate y.cfg.rxTimeout.toNat .tick) rest .noValue t := by
  cases h : y.cfg.transport with
  | ser9 =>
    have hleads := leads_silence_waitFirst (s := y.attempted.sent9 (bytes48 y.xchReq) (y.xchExplen.map (· + 1)))
      (rest := rest) rfl htimeout hev
    rw [← State.sentAttempt_ser9 h] at hleads
    refine ⟨{ y.sentAttempt with events := rest, t9Timer := 0, t9State := .off }, ⟨hleads.congr ?_ rfl, ⟨rfl, ?_, rfl, ?_⟩⟩⟩ <;>
      rw [State.sentAttempt_ser9 h]
    · exact (List.length_replicate ..).symm
    · exact hrxq
    · exact hp
  | pjon =>
    have hleads := leads_silence_pjf (s := y.attempted.sentPjon (bytes48 y.xchReq)) (rest := rest) h9 rfl htimeout hev
    rw [← State.sentAttempt_pjon h] at hleads
    refine ⟨_, ⟨hleads.congr ?_ rfl, ⟨rfl, ?_, ?_, rfl⟩⟩⟩ <;> rw [State.sentAttempt_pjon h]
    · exact (List.length_replicate ..).symm
    · exact hrxq
    · exact h9


omit h9 in
/-- A whole frame on the 9-bit line, up to the end of its capture. -/
theorem leads_frameChars (h : y.cfg.transport = .ser9) (htimeout : y.cfg.rxTimeout ≠ 0) (heop : y.cfg.eopIdle ≠ 0)
    (hexplen : y.xchExplen ≠ some 0xFFFF) {d : Bytes} {hi lo : Byte} (hfit : d.length + 2 ≤ y.params.maxbuf)
    (hexp : ∀ v, y.xchExplen = some v → d.length ≤ v.toNat + 1)
    (hev : y.events =
      (frameChars (d ++ [hi, lo])).map .rxChar ++ (List.replicate y.cfg.eopIdle.toNat .tick ++ rest)) :
    ∃ u : State, Leads (Awaits y.sentAttempt)
        ((frameChars (d ++ [hi, lo])).map Event.rxChar ++ List.replicate y.cfg.eopIdle.toNat Event.tick).length
        y.sentAttempt (t9Ended u) ∧
      u.trimmedRx.rxbuf = d ++ [hi, lo] ∧ Received y rest u.trimmedRx ∧ u.trimmedRx.xchLasterr = y.xchLasterr := by
  generalize hf : d ++ [hi, lo] = f at hev ⊢
  have hflen : f.length = d.length + 2 := by
    rw [← hf, List.length_append]
    rfl
  obtain ⟨b, bs, rfl⟩ : ∃ b bs, f = b :: bs := List.exists_cons_of_ne_nil (by rintro rfl; simp at hflen)
  have hlen : ((frameChars (b :: bs)).map Event.rxChar ++ List.replicate y.cfg.eopIdle.toNat Event.tick).length =
      (pacedSymbols ((t9Symbols (b :: bs)).map fun sym => (0, sym))).length + y.cfg.eopIdle.toNat := by
    rw [pacedSymbols_t9Symbols, List.length_append, List.length_replicate]
  rw [hlen]
  have hsyms : t9Symbols (b :: bs) = (true, b) :: bs.map fun c => (false, c) := rfl
  rw [← pacedSymbols_t9Symbols, hsyms, List.map_cons] at hev
  have hsnd : ((0, (true, b)) :: (bs.map fun c => (false, c)).map fun sym => (0, sym)).map Prod.snd =
      t9Symbols (b :: bs) := by
    rw [hsyms, List.map_cons, List.map_map]
    exact congrArg _ (List.map_id' _)
  have hcapture : trimmedCapture y.params.maxbuf (y.xchExplen.map (· + 1)) (t9Symbols (b :: bs)) = b :: bs := by
    refine trimmedCapture_t9Symbols (hflen ▸ hfit) fun w hw => ?_
    obtain ⟨v, hv, rfl⟩ := Option.map_eq_some_iff.1 hw
    have hmax : v ≠ 0xFFFF := fun h => hexplen (h ▸ hv)
    have hlt : v.toNat < 65535 := by
      have hv' := v.isLt
      have hne : v.toNat ≠ 65535 := fun h => hmax (BitVec.eq_of_toNat_eq h)
      omega
    have hnext : (v + 1).toNat = v.toNat + 1 := by
      rw [BitVec.toNat_add]
      exact Nat.mod_eq_of_lt (by simp; omega)
    have hle := hexp v hv
    omega
  have hpace : ∀ x ∈ (bs.map fun c => (false, c)).map fun sym => (0, sym), x.1 < y.cfg.eopIdle.toNat := fun x hx => by
    obtain ⟨sym, -, rfl⟩ := List.mem_map.1 hx
    exact BitVec.toNat_pos_of_ne_zero heop
  have hleads := leads_capture (s := y.attempted.sent9 (bytes48 y.xchReq) (y.xchExplen.map (· + 1))) (rest := rest)
    ⟨(fun hoff => by cases hoff), Nat.zero_le _, rfl, rfl⟩ heop (BitVec.toNat_pos_of_ne_zero htimeout)
    hpace hev
  rw [hsnd] at hleads
  rw [State.sentAttempt_ser9 h]
  refine ⟨_, hleads, ?_⟩
  rw [captured_trimmedRx rfl rfl]
  refine ⟨hcapture, ⟨?_, hrxq, rfl, hp⟩, rfl⟩
  rw [State.sentAttempt_ser9 h]
  rfl

omit h9 in
/-- A frame whose check is right is the data of the attempt. -/
theorem attemptEnds_data9 (h : y.cfg.transport = .ser9) (htimeout : y.cfg.rxTimeout ≠ 0) (heop : y.cfg.eopIdle ≠ 0)
    (hexplen : y.xchExplen ≠ some 0xFFFF) {d : Bytes} {hi lo : Byte} (hd : d ≠ []) (hfit : d.length + 2 ≤ y.params.maxbuf)
    (hexp : ∀ v, y.xchExplen = some v → d.length ≤ v.toNat + 1) (hchk : chk16 d = u16be hi lo)
    (hev : y.events =
      (frameChars (d ++ [hi, lo])).map .rxChar ++ (List.replicate y.cfg.eopIdle.toNat .tick ++ rest)) :
    ∃ t, AttemptEnds y
        ((frameChars (d ++ [hi, lo])).map Event.rxChar ++ List.replicate y.cfg.eopIdle.toNat .tick) rest (.value d) t ∧
      t.xchLasterr = y.xchLasterr := by
  obtain ⟨u, hleads, hrx, hreceived, hlast⟩ :=
    leads_frameChars hp hrxq h htimeout heop hexplen hfit hexp hev
  rw [t9Ended, t9Finish_of_match hd hrx hchk] at hleads
  exact ⟨_, ⟨hleads, ⟨hreceived.frame.trans (by exact rfl), hreceived.rxq, hreceived.t9, hreceived.pjf⟩⟩, hlast⟩

omit h9 in
/-- A frame whose check is wrong is an error of the attempt. -/
theorem attemptEnds_damaged (h : y.cfg.transport = .ser9) (htimeout : y.cfg.rxTimeout ≠ 0) (heop : y.cfg.eopIdle ≠ 0)
    (hexplen : y.xchExplen ≠ some 0xFFFF) {d : Bytes} {hi lo : Byte} (hd : d ≠ []) (hfit : d.length + 2 ≤ y.params.maxbuf)
    (hexp : ∀ v, y.xchExplen = some v → d.length ≤ v.toNat + 1) (hchk : chk16 d ≠ u16be hi lo)
    (hev : y.events =
      (frameChars (d ++ [hi, lo])).map .rxChar ++ (List.replicate y.cfg.eopIdle.toNat .tick ++ rest)) :
    ∃ t, AttemptEnds y
        ((frameChars (d ++ [hi, lo])).map Event.rxChar ++ List.replicate y.cfg.eopIdle.toNat .tick) rest
        (.err .checksumMismatch (chk16 d)) t := by
  obtain ⟨u, hleads, hrx, hreceived, -⟩ :=
    leads_frameChars hp hrxq h htimeout heop hexplen hfit hexp hev
  rw [t9Ended, t9Finish_of_mismatch hd hrx hchk] at hleads
  exact ⟨_, ⟨hleads, ⟨hreceived.frame.trans (by exact rfl), hreceived.rxq, hreceived.t9, hreceived.pjf⟩⟩⟩


omit h9 hp hrxq in
theorem pacedBytes_map_zero (bs : Bytes) : pacedBytes (bs.map fun b => (0, b)) = bs.map .rxByte := by
  induction bs with
  | nil => rfl
  | cons b bs ih =>
    rw [List.map_cons, pacedBytes_cons, ih]
    rfl

omit h9 hp hrxq in
theorem map_snd_map_zero (bs : Bytes) : (bs.map fun b => (0, b)).map Prod.snd = bs := by
  rw [List.map_map]
  exact List.map_id' bs

omit hp hrxq in
/-- The receive of a PJON attempt hears, and its line is unpaced. -/
theorem sentPjon_hears : Hears (y.attempted.sentPjon (bytes48 y.xchReq)) := ⟨h9, rfl, rfl, rfl⟩

omit h9 hp hrxq in
theorem unpaced (bs : Bytes) (htimeout : y.cfg.rxTimeout ≠ 0) :
    ∀ x ∈ bs.map fun b => (0, b), x.1 < y.cfg.rxTimeout.toNat := fun x hx => by
  obtain ⟨b, -, rfl⟩ := List.mem_map.1 hx
  exact BitVec.toNat_pos_of_ne_zero htimeout

/-- The state in which the frame `f` of an attempt is parsed. -/
def State.parsing (y : State) (rest : List Event) (f : Bytes) : State :=
  { y.attempted.sentPjon (bytes48 y.xchReq) with
    events := rest, rxbuf := f, rxtag := List.replicate f.length false, rxbufValid := false
    escState := .hunt, pjfRxstate := .off }

omit hp hrxq in
/-- A whole wrapped frame on the PJON line, up to its parse. -/
theorem leads_wrapped (h : y.cfg.transport = .pjon) (htimeout : y.cfg.rxTimeout ≠ 0) {f : Bytes}
    (hf : f.length ≤ y.params.maxbuf) (hev : y.events = (sfspWrap f).map .rxByte ++ rest) :
    Leads (Awaits y.sentAttempt) ((sfspWrap f).map Event.rxByte).length y.sentAttempt
      (pjfEnded (pjonParse f (y.parsing rest f))) := by
  have hleads := leads_wrap (s := y.attempted.sentPjon (bytes48 y.xchReq)) (rest := rest)
    (unpaced (sfspWrap f) htimeout) (sentPjon_hears h9) (by rw [pacedBytes_map_zero]; exact hev) (map_snd_map_zero _) hf
  rw [pacedBytes_map_zero] at hleads
  rw [State.sentAttempt_pjon h]
  exact hleads

omit hp in
/-- What the parse of a frame of the attempt leaves, whatever its verdict. -/
theorem received_pjonParse (h : y.cfg.transport = .pjon) (f : Bytes) :
    Received y rest (pjonParse f (y.parsing rest f)).1 ∧
      (pjonParse f (y.parsing rest f)).1.xchLasterr = y.xchLasterr := by
  obtain ⟨hdr, c8, c32, snd, v, he, -⟩ := pjonParse_frame f (y.parsing rest f)
  rw [he]
  refine ⟨⟨?_, hrxq, h9, rfl⟩, rfl⟩
  rw [State.sentAttempt_pjon h]
  rfl

omit h9 hp hrxq in
theorem Received.raise {t : State} (ht : Received y rest t) (k : ErrKind) (info : BitVec 16) :
    Received y rest (t.raise k info) :=
  ⟨ht.frame.trans (raise_receives k info t).frame, ht.rxq, ht.t9, ht.pjf⟩

omit hp in
/-- A frame that passes every check is the data of the attempt. -/
theorem attemptEnds_payload (h : y.cfg.transport = .pjon) (htimeout : y.cfg.rxTimeout ≠ 0) {f : Bytes}
    (hf : f.length ≤ y.params.maxbuf) (hverdict : pjonVerdict y.cfg.deviceId f = none)
    (hev : y.events = (sfspWrap f).map .rxByte ++ rest) :
    ∃ t, AttemptEnds y ((sfspWrap f).map .rxByte) rest (.value (pjonPayload f)) t ∧ t.xchLasterr = y.xchLasterr := by
  have hleads := leads_wrapped h9 h htimeout hf hev
  obtain ⟨hreceived, hlast⟩ := received_pjonParse (rest := rest) h9 hrxq h f
  obtain ⟨-, c8, c32, he⟩ := pjonParse_of_verdict_none (s := y.parsing rest f) hverdict
  rw [he] at hleads hreceived hlast
  exact ⟨_, ⟨hleads, ⟨hreceived.frame.trans (by exact rfl), hreceived.rxq, hreceived.t9, hreceived.pjf⟩⟩, hlast⟩

omit hp in
/-- A frame that fails a check for this block is an error of the attempt. -/
theorem attemptEnds_badFrame (h : y.cfg.transport = .pjon) (htimeout : y.cfg.rxTimeout ≠ 0) {f : Bytes}
    (hf : f.length ≤ y.params.maxbuf) {k : ErrKind} {info : BitVec 16}
    (hverdict : pjonVerdict y.cfg.deviceId f = some (k, info)) (hev : y.events = (sfspWrap f).map .rxByte ++ rest) :
    ∃ t, AttemptEnds y ((sfspWrap f).map .rxByte) rest
      (if k = .notAddressedToUs then .noValue else .err k info) t := by
  have hleads := leads_wrapped h9 h htimeout hf hev
  obtain ⟨hreceived, -⟩ := received_pjonParse (rest := rest) h9 hrxq h f
  obtain ⟨-, hr, -⟩ := pjonParse_of_verdict_some (s := y.parsing rest f) hverdict
  generalize pjonParse f (y.parsing rest f) = v at *
  obtain ⟨t, r⟩ := v
  dsimp only at hr hreceived
  subst hr
  rcases pjfEnd_cases t (.err k info) with ⟨_, heq, he⟩ | ⟨_, _, hother, heq, he⟩ | ⟨hno, -⟩
  · cases heq
    rw [pjfEnded, he] at hleads
    exact ⟨_, hleads, hreceived.raise _ _⟩
  · cases heq
    rw [pjfEnded, he] at hleads
    rw [if_neg hother]
    exact ⟨_, hleads, hreceived.raise _ _⟩
  · exact absurd rfl (hno k info)

omit hp in
/-- `ESC END` behind an escaped string is an error of the attempt. -/
theorem attemptEnds_malformed (h : y.cfg.transport = .pjon) (htimeout : y.cfg.rxTimeout ≠ 0) {g : Bytes}
    (hg : g.length ≤ y.params.maxbuf)
    (hev : y.events = (0x95 :: (escape g ++ [0xBB, 0xEA])).map .rxByte ++ rest) :
    ∃ t, AttemptEnds y ((0x95 :: (escape g ++ [0xBB, 0xEA])).map .rxByte) rest
      (.err .malformedFrame (BitVec.ofNat 16 g.length)) t := by
  have hleads := leads_esc_end (s := y.attempted.sentPjon (bytes48 y.xchReq)) (rest := rest)
    (unpaced (0x95 :: (escape g ++ [0xBB, 0xEA])) htimeout) (sentPjon_hears h9)
    (by rw [pacedBytes_map_zero]; exact hev) (map_snd_map_zero _) hg
  rw [pacedBytes_map_zero, malformedEnded] at hleads
  refine ⟨(y.parsing rest []).raise .malformedFrame (BitVec.ofNat 16 g.length),
    ⟨by rw [State.sentAttempt_pjon h]; exact hleads, ?_⟩⟩
  refine Received.raise (t := y.parsing rest []) ⟨?_, hrxq, h9, rfl⟩ _ _
  rw [State.sentAttempt_pjon h]
  rfl

end

end Sys2Proof.Machine

/-! Whole exchanges: retry exhaustion on a silent line, and recovery from retryable failures (spec/47_exchange.md
section 3). -/

namespace Sys2Proof.Machine

/-- The events of a failed attempt lead to the end of its receive with its failure, which is one to retry. -/
theorem failedAttempt_ends {y : State} (h9 : y.t9State = .off) (hp : y.pjfRxstate = .off) (hrxq : y.rxq = [])
    (htimeout : y.cfg.rxTimeout ≠ 0) (heop : y.cfg.eopIdle ≠ 0) (hexplen : y.xchExplen ≠ some 0xFFFF) {evs rest : List Event}
    {k : ErrKind} {info : BitVec 16} (hx : FailedAttempt y.cfg y.params.maxbuf y.xchExplen evs (k, info))
    (hev : y.events = evs ++ rest) :
    ∃ r t, FailsWith r k info ∧ k.retryable = true ∧ AttemptEnds y evs rest r t := by
  cases hx with
  | silence =>
    obtain ⟨t, ht⟩ := attemptEnds_silence h9 hp hrxq htimeout hev
    exact ⟨.noValue, t, .inr ⟨rfl, rfl, rfl⟩, rfl, ht⟩
  | damaged d hi lo htransport hd hfit hexp hchk =>
    obtain ⟨t, ht⟩ := attemptEnds_damaged hp hrxq htransport htimeout heop hexplen hd hfit hexp hchk
      (rest := rest) (by rw [hev, List.append_assoc])
    exact ⟨_, t, .inl rfl, rfl, ht⟩
  | badFrame f _ _ htransport hf hverdict hk =>
    obtain ⟨t, ht⟩ := attemptEnds_badFrame h9 hrxq htransport htimeout hf hverdict hev
    rw [if_neg (by rintro rfl; cases hk)] at ht
    exact ⟨_, t, .inl rfl, hk, ht⟩
  | otherDevice f _ htransport hf hverdict =>
    obtain ⟨t, ht⟩ := attemptEnds_badFrame h9 hrxq htransport htimeout hf hverdict hev
    rw [if_pos rfl] at ht
    exact ⟨.noValue, t, .inr ⟨rfl, rfl, rfl⟩, rfl, ht⟩
  | malformed g htransport hg =>
    obtain ⟨t, ht⟩ := attemptEnds_malformed h9 hrxq htransport htimeout hg hev
    exact ⟨_, t, .inl rfl, rfl, ht⟩

theorem exchangeExpected_ne (op : XchOp) {e : Option (BitVec 16)} (he : e ≠ some 0xFFFF) :
    exchangeExpected op e ≠ some 0xFFFF := by
  cases op with
  | send => exact he
  | query => exact fun h => by cases h
  | control => exact fun h => by cases h

/-! The first step. -/

section
variable {s : State} (hidle : s.Idle) (hrxq : s.rxq = []) (op : XchOp) {port ty : Byte} (ad pa : BitVec 16)
  {e : Option (BitVec 16)} {rest : List Event}
include hidle hrxq

theorem sending_begin : Sending s op (packetBody port (exchangeType op ty) ad pa) (exchangeExpected op e) 0 none
    (xchBegin op (body48 port (exchangeType op ty) ad pa) (exchangeExpected op e) { s with events := rest }) where
  cfg := rfl
  params := rfl
  rsp := rfl
  op := rfl
  req := bytes48_body48 _ _ _ _
  explen := rfl
  resp := rfl
  lasterr := rfl
  retries := rfl
  attempts := rfl
  lineTx := (List.append_nil _).symm
  rxq := hrxq
  t9 := hidle.2.1
  pjf := hidle.2.2

theorem step_exchange (hport : port.toNat ≤ 9) (hty : ty.toNat ∈ [2, 3, 4, 22]) (he : e ≠ some 0xFFFF)
    (hev : s.events = .cmd (encode (exchangeCommand op port ty ad pa e)) :: rest) :
    step s = .next (xchBegin op (body48 port (exchangeType op ty) ad pa) (exchangeExpected op e)
      { s with events := rest }).sentAttempt := by
  have hwf : (exchangeCommand op port ty ad pa e).wf = true := by
    cases op with
    | send => exact (explenFits_iff e).2 he
    | query => rfl
    | control => rfl
  rw [step_cmd_encode hwf hev,
    exec_exchangeCommand_of_legal (s := { s with events := rest }) ((State.idle_withEvents s rest).2 hidle) hport hty,
    xchStart_of_empty (s := { s with events := rest }) hrxq]

end

/-! The attempts. -/

section
variable {s y : State} {op : XchOp} {body : Bytes} {e : Option (BitVec 16)} {n : Nat}
  {last : Option (ErrKind × BitVec 16)} {rest : List Event}

theorem Sending.awaits (h : Sending s op body e n last y) {w : State} (hw : Awaits y.sentAttempt w) : w.rsp = s.rsp :=
  hw.rsp.trans ((State.sentAttempt_rsp y).trans h.rsp)

/-- One failed attempt with a retry left leads to the next attempt. -/
theorem Sending.next (h : Sending s op body e n last y) (htimeout : s.cfg.rxTimeout ≠ 0) (heop : s.cfg.eopIdle ≠ 0)
    (he : e ≠ some 0xFFFF) {evs : List Event} {x : ErrKind × BitVec 16}
    (hx : FailedAttempt s.cfg s.params.maxbuf e evs x) (hleft : n < s.cfg.retryPacket.toNat)
    (hev : y.events = evs ++ rest) :
    ∃ y', Sending s op body e (n + 1) (some x) y' ∧ y'.events = rest ∧
      Leads (Awaits y.sentAttempt) evs.length y.sentAttempt y'.sentAttempt := by
  obtain ⟨k, info⟩ := x
  rw [← h.cfg, ← h.params, ← h.explen] at hx
  obtain ⟨r, t, hr, hk, hends⟩ := failedAttempt_ends h.t9 h.pjf h.rxq (h.cfg ▸ htimeout) (h.cfg ▸ heop) (h.explen ▸ he)
    hx hev
  refine ⟨xchRetry k info t, h.retry hends.received hleft k info, hends.received.events, ?_⟩
  rw [← h.retried hends.received hleft hr hk]
  exact hends.leads

/-- The last failed attempt ends the exchange. -/
theorem Sending.exhausted (h : Sending s op body e n last y) (htimeout : s.cfg.rxTimeout ≠ 0) (heop : s.cfg.eopIdle ≠ 0)
    (he : e ≠ some 0xFFFF) {evs : List Event} {k : ErrKind} {info : BitVec 16}
    (hx : FailedAttempt s.cfg s.params.maxbuf e evs (k, info)) (hlast : n = s.cfg.retryPacket.toNat)
    (hev : y.events = evs ++ rest) :
    ∃ t, Received y rest t ∧ Leads (Awaits y.sentAttempt) evs.length y.sentAttempt
      (({ t with xchState := .failed, xchLasterr := some (k, info) } : State).ended k info) := by
  rw [← h.cfg, ← h.params, ← h.explen] at hx
  obtain ⟨r, t, hr, hk, hends⟩ := failedAttempt_ends h.t9 h.pjf h.rxq (h.cfg ▸ htimeout) (h.cfg ▸ heop) (h.explen ▸ he)
    hx hev
  refine ⟨t, hends.received, ?_⟩
  rw [← h.failed hends.received hlast.ge hr]
  exact hends.leads

/-- Failed attempts, as many as there are retries left at most, lead to the attempt after them. -/
theorem Sending.attempts_lead (h : Sending s op body e n last y) (htimeout : s.cfg.rxTimeout ≠ 0)
    (heop : s.cfg.eopIdle ≠ 0) (he : e ≠ some 0xFFFF) {fails : List (List Event × (ErrKind × BitVec 16))}
    (hfails : ∀ x ∈ fails, FailedAttempt s.cfg s.params.maxbuf e x.1 x.2)
    (hleft : n + fails.length ≤ s.cfg.retryPacket.toNat) (hev : y.events = (fails.map Prod.fst).flatten ++ rest) :
    ∃ y', Sending s op body e (n + fails.length) ((fails.getLast?.map Prod.snd).or last) y' ∧ y'.events = rest ∧
      Leads (fun w => w.rsp = s.rsp) (fails.map Prod.fst).flatten.length y.sentAttempt y'.sentAttempt := by
  induction fails generalizing n last y with
  | nil => exact ⟨y, h, hev, Leads.refl _ _⟩
  | cons x fails ih =>
    obtain ⟨evs, x⟩ := x
    rw [List.length_cons] at hleft
    rw [List.map_cons, List.flatten_cons, List.append_assoc] at hev
    obtain ⟨y', hy', hev', hleads⟩ := h.next htimeout heop he (hfails _ (List.mem_cons_self ..)) (by omega) hev
    obtain ⟨y'', hy'', hev'', hleads'⟩ :=
      ih hy' (fun z hz => hfails z (List.mem_cons_of_mem _ hz)) (by omega) hev'
    refine ⟨y'', ?_, hev'', ?_⟩
    · have hcount : n + 1 + fails.length = n + ((evs, x) :: fails).length := by rw [List.length_cons]; omega
      have hlast : (fails.getLast?.map Prod.snd).or (some x) = (((evs, x) :: fails).getLast?.map Prod.snd).or last := by
        rw [List.getLast?_cons]
        cases fails.getLast? <;> rfl
      rwa [hcount, hlast] at hy''
    · refine ((hleads.mono fun w hw => h.awaits hw).trans hleads').congr ?_ rfl
      rw [List.map_cons, List.flatten_cons, List.length_append]

theorem responseEvents_ser9 {cfg : Cfg} (h : cfg.transport = .ser9) (sender : Byte) (r : Bytes) :
    responseEvents cfg sender r =
      (frameChars (r ++ be16 (chk16 r))).map .rxChar ++ List.replicate cfg.eopIdle.toNat .tick := by
  unfold responseEvents
  rw [h]

theorem responseEvents_pjon {cfg : Cfg} (h : cfg.transport = .pjon) (sender : Byte) (r : Bytes) :
    responseEvents cfg sender r = (sfspWrap (pjonFrame cfg.deviceId sender r)).map .rxByte := by
  unfold responseEvents
  rw [h]

/-- An accepted response ends the exchange in `Done`. -/
theorem Sending.accepted (h : Sending s op body e n last y) (hmax : 255 ≤ s.params.maxbuf) (htimeout : s.cfg.rxTimeout ≠ 0)
    (heop : s.cfg.eopIdle ≠ 0) (he : e ≠ some 0xFFFF) (sender st : Byte) {p : Bytes} (hst : st.toNat < 128) (hp : p ≠ [])
    (h9 : s.cfg.transport = .ser9 → p.length + 3 ≤ s.params.maxbuf ∧ ∀ v, e = some v → p.length ≤ v.toNat)
    (hpjon : s.cfg.transport = .pjon → p.length ≤ 245) (hev : y.events = responseEvents s.cfg sender (st :: p) ++ rest) :
    ∃ t, Received y rest t ∧ t.xchLasterr = last ∧
      Leads (Awaits y.sentAttempt) (responseEvents s.cfg sender (st :: p)).length y.sentAttempt
        (({ t with xchResp := p, xchState := .done } : State).answer (xchPayloadResult op p)) := by
  have hdata : ∃ t, AttemptEnds y (responseEvents s.cfg sender (st :: p)) rest (.value (st :: p)) t ∧
      t.xchLasterr = y.xchLasterr := by
    cases htransport : s.cfg.transport with
    | ser9 =>
      obtain ⟨hfit, hexp⟩ := h9 htransport
      have hcheck : be16 (chk16 (st :: p)) = [hi8 (chk16 (st :: p)), lo8 (chk16 (st :: p))] := rfl
      rw [responseEvents_ser9 htransport, hcheck, ← h.cfg] at hev ⊢
      refine attemptEnds_data9 h.pjf h.rxq (h.cfg ▸ htransport) (h.cfg ▸ htimeout) (h.cfg ▸ heop) (h.explen ▸ he)
        (List.cons_ne_nil st p) (h.params ▸ hfit) (fun v hv => ?_) (u16be_hi8_lo8 _).symm (by rw [hev, List.append_assoc])
      exact Nat.succ_le_succ (hexp v (h.explen ▸ hv))
    | pjon =>
      have hlen : (st :: p).length ≤ 246 := Nat.succ_le_succ (hpjon htransport)
      rw [responseEvents_pjon htransport] at hev ⊢
      obtain ⟨t, ht⟩ := attemptEnds_payload (rest := rest) h.t9 h.rxq (h.cfg ▸ htransport) (h.cfg ▸ htimeout)
        (h.params ▸ (pjonFrame_length_le hlen s.cfg.deviceId sender).trans hmax)
        (h.cfg ▸ pjonVerdict_pjonFrame hlen (.inl rfl) fun b hb => absurd (List.cons.inj hb).2 hp) hev
      rw [pjonPayload_pjonFrame] at ht
      exact ⟨t, ht⟩
  obtain ⟨t, hends, hlast⟩ := hdata
  refine ⟨t, hends.received, hlast.trans h.lasterr, ?_⟩
  have hvalid : receiveEnded (t, some (.value (st :: p))) =
      ({ t with xchResp := p, xchState := .done } : State).answer (xchPayloadResult op p) := by
    rw [receiveEnded_value hends.received.awaiting, xchValidate_of_value (pktResponse_of_accepted hp hst),
      hends.received.xchOp, h.op]
  rw [← hvalid]
  exact hends.leads


end

/-- The command that starts an exchange, as the first step of a run without an answer. -/
theorem endsIn_of_exchange {s y u : State} {n : Nat} (hstep : step s = .next y.sentAttempt)
    (hleads : Leads (fun w => w.rsp = s.rsp) n y.sentAttempt u) (hn : 1 + n = s.events.length) : s.EndsIn u :=
  ((Leads.step (P := fun w => w.rsp = s.rsp) hstep rfl).trans hleads).endsIn hn

/-- An answer outside an exchange: the error registers and one answer (R386). -/
theorem State.answer_of_resting {u : State} (h : u.xchState = .idle ∨ u.xchState = .done ∨ u.xchState = .failed)
    (r : OpResult) : ∃ k info, u.answer r = { u with errKind := k, errInfo := info, rsp := u.rsp ++ [r.rsp] } ∧
      ((∀ k info, r ≠ .err k info) → k = .none ∧ info = 0) := by
  cases r with
  | err k info =>
    refine ⟨k, info, ?_, fun hno => absurd rfl (hno k info)⟩
    rw [State.answer_err ((State.inExchange_eq_false u).2 h)]
    rfl
  | value p => exact ⟨.none, 0, rfl, fun _ => ⟨rfl, rfl⟩⟩
  | noValue => exact ⟨.none, 0, rfl, fun _ => ⟨rfl, rfl⟩⟩
  | void => exact ⟨.none, 0, rfl, fun _ => ⟨rfl, rfl⟩⟩

theorem xchPayloadResult_rsp (op : XchOp) (p : Bytes) : (xchPayloadResult op p).rsp = exchangeAnswer op p := by
  cases op with
  | send => rfl
  | control => rfl
  | query =>
    rw [xchPayloadResult, exchangeAnswer]
    by_cases h : p.length = 2
    · rw [pktValue_of_length h, if_pos h]
      rfl
    · rw [pktValue_of_length_ne h, if_neg h]
      rfl

theorem xchPayloadResult_ne_err {op : XchOp} {p : Bytes} (h : op ≠ .query ∨ p.length = 2) (k : ErrKind)
    (info : BitVec 16) : xchPayloadResult op p ≠ .err k info := by
  cases op with
  | send => exact fun he => by cases he
  | control => exact fun he => by cases he
  | query =>
    rw [xchPayloadResult, pktValue_of_length (h.resolve_left (not_not.2 rfl))]
    exact fun he => by cases he

/-- Settles O58: the failed attempts lead to the one after them, which is answered or is the last. -/
theorem exchangeRecoversAfterSilence : Obligations.ExchangeRecoversAfterSilence := by
  intro s op port ty ad pa e fails tail hidle hcfg hrxq hport hty he hfails hev
  obtain ⟨htimeout, heop, hmax⟩ := hcfg.timeouts
  have hexpected := exchangeExpected_ne op he
  have hbegin := sending_begin (rest := (fails.map Prod.fst).flatten ++ tail) (port := port) (ty := ty) (e := e) hidle hrxq
    op ad pa
  have hstep := step_exchange hidle hrxq op ad pa hport hty he hev
  refine ⟨fun sender st p hcount hst hp h9 hpjon htail => ?_, fun k info hcount htail hlast => ?_⟩
  · obtain ⟨y, hy, hyev, hleads⟩ := hbegin.attempts_lead htimeout heop hexpected hfails (by omega) rfl
    obtain ⟨t, ht, hlasterr, hdone⟩ := hy.accepted (rest := []) hmax htimeout heop hexpected sender st hst hp h9 hpjon
      (by rw [hyev, htail, List.append_nil])
    refine ⟨_, endsIn_of_exchange hstep (hleads.trans (hdone.mono fun w hw => hy.awaits hw)) ?_, ?_⟩
    · rw [hev, List.length_cons, List.length_append, htail, Nat.add_comm]
    · obtain ⟨k, info, hanswer, hclean⟩ := State.answer_of_resting
        (u := { t with xchResp := p, xchState := .done }) (.inr (.inl rfl)) (xchPayloadResult op p)
      rw [hanswer]
      refine ⟨rfl, rfl, rfl, ?_, ?_, ?_, fun hno => hclean (xchPayloadResult_ne_err hno), ?_, ?_, ht.t9, ht.pjf,
        ht.events, ht.cfg.trans hy.cfg⟩
      · exact (congrArg BitVec.toNat ht.xchAttempts).trans (hy.attempt_count.trans (by rw [Nat.zero_add]))
      · exact (congrArg BitVec.toNat ht.xchRetries).trans (hy.retries.trans (Nat.zero_add _))
      · exact hlasterr.trans Option.or_none
      · rw [xchPayloadResult_rsp]
        exact congrArg (· ++ _) (ht.rsp.trans hy.rsp)
      · exact (hy.line_after ht).trans (by rw [Nat.zero_add])
  · obtain ⟨before, x, rfl⟩ : ∃ before x, fails = before ++ [x] := by
      have hne : fails ≠ [] := by rintro rfl; cases hlast
      exact ⟨fails.dropLast, fails.getLast hne, (List.dropLast_append_getLast hne).symm⟩
    obtain ⟨evs, x⟩ := x
    rw [List.getLast?_concat, Option.map_some, Option.some_inj] at hlast
    cases hlast
    have hbefore : before.length = s.cfg.retryPacket.toNat := by simpa using hcount
    have hflat : ((before ++ [(evs, (k, info))]).map Prod.fst).flatten = (before.map Prod.fst).flatten ++ evs := by
      simp
    obtain ⟨y, hy, hyev, hleads⟩ := hbegin.attempts_lead (rest := evs ++ tail) htimeout heop hexpected
      (fun z hz => hfails z (List.mem_append_left _ hz)) (by omega)
      (show _ = _ by rw [← List.append_assoc, ← hflat]; rfl)
    obtain ⟨t, ht, hfailed⟩ := hy.exhausted (rest := []) htimeout heop hexpected
      (hfails (evs, (k, info)) (List.mem_append_right _ (List.mem_singleton_self _))) (by omega)
      (by rw [hyev, htail])
    refine ⟨_, endsIn_of_exchange hstep (hleads.trans (hfailed.mono fun w hw => hy.awaits hw)) ?_, ?_⟩
    · rw [hev, List.length_cons, hflat, htail, List.append_nil, List.length_append, Nat.add_comm]
    · rw [hcount, ← hbefore]
      refine ⟨rfl, ht.xchResp.trans hy.resp, ?_, ?_, rfl, rfl, rfl, congrArg (· ++ _) (ht.rsp.trans hy.rsp), ?_, ht.t9,
        ht.pjf, ht.events, ht.cfg.trans hy.cfg⟩
      · exact (congrArg BitVec.toNat ht.xchAttempts).trans (hy.attempt_count.trans (by rw [Nat.zero_add]))
      · refine BitVec.eq_of_toNat_eq ((congrArg BitVec.toNat ht.xchRetries).trans (hy.retries.trans ?_))
        rw [Nat.zero_add, hbefore]
      · exact (hy.line_after ht).trans (by rw [Nat.zero_add])

/-- On a silent line the attempts follow each other at the timeout, and the last one ends the exchange. -/
theorem Sending.silent {s : State} {op : XchOp} {body : Bytes} {e : Option (BitVec 16)} (htimeout : s.cfg.rxTimeout ≠ 0)
    (heop : s.cfg.eopIdle ≠ 0) (he : e ≠ some 0xFFFF) (left : Nat) {n : Nat} {last : Option (ErrKind × BitVec 16)}
    {y : State} {rest : List Event} (h : Sending s op body e n last y) (hleft : n + left = s.cfg.retryPacket.toNat)
    (hev : y.events = List.replicate ((left + 1) * s.cfg.rxTimeout.toNat) .tick ++ rest) :
    (∀ k, k < (left + 1) * s.cfg.rxTimeout.toNat → ∃ u : State, runSteps k y.sentAttempt = .next u ∧
      u.xchState = .awaitingResponse ∧ u.rsp = s.rsp ∧ u.xchAttempts.toNat = n + k / s.cfg.rxTimeout.toNat + 1) ∧
    ∃ (last' : _) (z t : State), Sending s op body e s.cfg.retryPacket.toNat last' z ∧
      Received z rest t ∧ runSteps ((left + 1) * s.cfg.rxTimeout.toNat) y.sentAttempt =
        .next (({ t with xchState := .failed, xchLasterr := some (.noResponse, 0) } : State).ended .noResponse 0) := by
  have hsilence : FailedAttempt s.cfg s.params.maxbuf e (List.replicate s.cfg.rxTimeout.toNat .tick) (.noResponse, 0) :=
    .silence
  have hpos : 0 < s.cfg.rxTimeout.toNat := BitVec.toNat_pos_of_ne_zero htimeout
  generalize hT : s.cfg.rxTimeout.toNat = T at *
  have hwithin {y : State} {n : Nat} {last} {u : State} (h : Sending s op body e n last y)
      (hleads : Leads (Awaits y.sentAttempt) (List.replicate T Event.tick).length y.sentAttempt u) (k : Nat) (hk : k < T) :
      ∃ w : State, runSteps k y.sentAttempt = .next w ∧ w.xchState = .awaitingResponse ∧ w.rsp = s.rsp ∧
        w.xchAttempts.toNat = n + k / T + 1 := by
    obtain ⟨w, hw, hawaits⟩ := hleads.2 k (by rwa [List.length_replicate])
    refine ⟨w, hw, hawaits.xchState.trans (State.sentAttempt_xchState y), h.awaits hawaits, ?_⟩
    rw [hawaits.xchAttempts, State.sentAttempt_xchAttempts, h.attempt_count, Nat.div_eq_of_lt hk, Nat.add_zero]
  induction left generalizing n last y with
  | zero =>
    rw [Nat.zero_add, Nat.one_mul] at hev ⊢
    obtain ⟨t, ht, hleads⟩ := h.exhausted htimeout heop he hsilence hleft hev
    refine ⟨hwithin h hleads, last, y, t, ?_, ht, ?_⟩
    · rw [← hleft]
      exact h
    · rw [← hleads.1, List.length_replicate]
  | succ left ih =>
    have hsplit : (left + 1 + 1) * T = T + (left + 1) * T := by rw [Nat.succ_mul, Nat.add_comm]
    rw [hsplit] at hev ⊢
    rw [List.replicate_add, List.append_assoc] at hev
    obtain ⟨y', hy', hev', hleads⟩ := h.next htimeout heop he hsilence (by omega) hev
    obtain ⟨hbefore, last', z, t, hz, ht, hlast⟩ := ih hy' (by omega) hev'
    have hruns : runSteps T y.sentAttempt = .next y'.sentAttempt := by
      rw [← hleads.1, List.length_replicate]
    refine ⟨fun k hk => ?_, last', z, t, hz, ht, by rw [runSteps_add hruns, hlast]⟩
    rcases Nat.lt_or_ge k T with hlt | hge
    · exact hwithin h hleads k hlt
    · obtain ⟨w, hw, hx, hrsp, hcount⟩ := hbefore (k - T) (by omega)
      refine ⟨w, ?_, hx, hrsp, ?_⟩
      · rw [← hw, ← runSteps_add hruns, Nat.add_sub_cancel' hge]
      · have hdiv : k / T = (k - T) / T + 1 := by
          rw [← Nat.add_div_right _ hpos, Nat.sub_add_cancel hge]
        rw [hcount, hdiv]
        omega

/-- Settles O57: the command sends the first attempt, and silence does the rest. -/
theorem silentLineExhaustsRetries : Obligations.SilentLineExhaustsRetries := by
  intro s op port ty ad pa e n hidle hcfg hrxq hport hty he hn hev
  obtain ⟨htimeout, heop, -⟩ := hcfg.timeouts
  have hstep := runSteps_one (step_exchange hidle hrxq op ad pa hport hty he hev)
  have hbegin := sending_begin (rest := List.replicate n .tick) (port := port) (ty := ty) (e := e) hidle hrxq op ad pa
  obtain ⟨hbefore, last, z, t, hz, ht, hlast⟩ := hbegin.silent htimeout heop (exchangeExpected_ne op he)
    s.cfg.retryPacket.toNat (rest := []) (Nat.zero_add _) (by rw [← hn, List.append_nil]; rfl)
  rw [← hn] at hbefore hlast
  have hline := hz.line_after ht
  refine ⟨fun k hk => ?_, _, (runSteps_add hstep n).trans hlast, rfl, ?_, ?_, rfl, ht.xchResp.trans hz.resp, rfl, rfl,
    congrArg (· ++ [errorRsp 0x01 0]) (ht.rsp.trans hz.rsp), hline, ht.t9, ht.pjf, ht.events,
    ht.cfg.trans hz.cfg⟩
  · obtain ⟨u, hu, hx, hrsp, hcount⟩ := hbefore k hk
    exact ⟨u, by rw [runSteps_add hstep, hu], hx, hrsp, by rw [hcount, Nat.zero_add]⟩
  · exact (congrArg BitVec.toNat ht.xchAttempts).trans hz.attempt_count
  · exact BitVec.eq_of_toNat_eq ((congrArg BitVec.toNat ht.xchRetries).trans hz.retries)

end Sys2Proof.Machine

/-! ## The host sequences as functions (O59) -/

namespace Sys2Proof.Machine

section
variable {codes : DeviceCodes} {bus : Byte → QueryOutcome} {d d' : Discovery} {n : Nat}

/-- A scan after which the host scans on. -/
theorem Discovery.run_of_scanNext (h : d.next codes (bus d.port) = .scanNext d') {ports : List Byte} {m : HostMove}
    (hrun : d'.run codes bus n = (ports, m)) : d.run codes bus (n + 1) = (d.port :: ports, m) := by
  rw [Discovery.run, h]
  simp only [hrun]

/-- A scan that ends the sequence. -/
theorem Discovery.run_of_ended {r : DiscoveryResult} (h : d.next codes (bus d.port) = .ended r) :
    d.run codes bus (n + 1) = ([d.port], .ended r) := by
  rw [Discovery.run, h]

/-- A failure other than `NoResponse` ends every sequence. -/
theorem Discovery.next_failed (codes : DeviceCodes) (d : Discovery) {k : ErrKind} (hk : k ≠ .noResponse) :
    d.next codes (.failed k) = .ended (.failed k) := by
  obtain ⟨v, h, -⟩ | ⟨h, -⟩ | ⟨k', -, h, hscan⟩ := scanResult_cases (.failed k)
  · cases h
  · exact absurd (QueryOutcome.failed.inj h) hk
  · rw [Discovery.next, hscan, QueryOutcome.failed.inj h]

end

/-- The ports from `p` on, in the order in which the sequences scan them. -/
def portsFrom (p : Nat) : List Byte := ((List.finRange 10).drop p).map portByte

theorem portsFrom_cons (p : Port) : portByte p :: portsFrom (p.val + 1) = portsFrom p.val := by
  revert p; decide

/-- The code that the scan of a port reads from its query, `none` where nothing answers (R361). -/
def QueryOutcome.code? : QueryOutcome → Option Byte
  | .value v => some (lo8 v)
  | .failed _ => none

/-- A query that failed at most with `NoResponse`, so that the scan has a result (R361). -/
theorem scanResult_of_scans {o : QueryOutcome} (h : ∀ k, o = .failed k → k = .noResponse) :
    scanResult o = .ok o.code? := by
  cases o with
  | value v => rfl
  | failed k => rw [h k rfl]; rfl

/-- The topology of the first `n` ports: those of them that answer are mapped (R364). -/
def topologyOf (codes : DeviceCodes) (bus : Byte → QueryOutcome) (n : Nat) : BusTopology :=
  Vector.ofFn fun q => if q.val < n then (bus (portByte q)).code?.map (describe codes q) else none

theorem topologyOf_getElem (codes : DeviceCodes) (bus : Byte → QueryOutcome) (n i : Nat) (hi : i < 10) :
    (topologyOf codes bus n)[i] =
      if i < n then (bus (portByte ⟨i, hi⟩)).code?.map (describe codes ⟨i, hi⟩) else none := by
  rw [topologyOf, Vector.getElem_ofFn]

theorem topologyOf_zero (codes : DeviceCodes) (bus : Byte → QueryOutcome) : topologyOf codes bus 0 = emptyTopology := by
  ext i hi : 1
  rw [topologyOf_getElem, if_neg (Nat.not_lt_zero i), emptyTopology, Vector.getElem_replicate]

theorem recordPort_getElem (codes : DeviceCodes) (p : Port) (found : BusTopology) (code : Option Byte) (i : Nat)
    (hi : i < 10) : (recordPort codes p found code)[i] =
      if p.val = i then (code.map (describe codes p)).or found[i] else found[i] := by
  cases code with
  | none => exact (ite_self _).symm
  | some c => exact Vector.getElem_set p.isLt hi

/-- The scan of a port adds it to the topology of the ports before it. -/
theorem recordPort_topologyOf (codes : DeviceCodes) (bus : Byte → QueryOutcome) (p : Port) :
    recordPort codes p (topologyOf codes bus p.val) (bus (portByte p)).code? = topologyOf codes bus (p.val + 1) := by
  ext i hi : 1
  rw [recordPort_getElem, topologyOf_getElem, topologyOf_getElem]
  by_cases hp : p.val = i
  · subst hp
    rw [if_pos rfl, if_neg (Nat.lt_irrefl _), if_pos (Nat.lt_succ_self _), Option.or_none]
  · rw [if_neg hp]
    exact if_congr (by omega) rfl rfl

/-- An enumeration that found a hub at port 0 scans all the ports left and maps those that answer (R364). -/
theorem run_enumerate {codes : DeviceCodes} {bus : Byte → QueryOutcome}
    (hbus : ∀ (q : Port) (k : ErrKind), bus (portByte q) = .failed k → k = .noResponse) {n : Nat} {p : Port}
    (hn : p.val + n = 10)
    (hmove : (Discovery.enumerate p (topologyOf codes bus p.val)).next codes (bus (portByte p)) =
      enumerateOn p (topologyOf codes bus (p.val + 1))) :
    (Discovery.enumerate p (topologyOf codes bus p.val)).run codes bus n =
      (portsFrom p.val, .ended (.topology (topologyOf codes bus 10))) := by
  induction n generalizing p with
  | zero => exact absurd p.isLt (by omega)
  | succ n ih =>
    cases hq : nextPort p with
    | none =>
      obtain rfl := nextPort_eq_none.1 hq
      exact Discovery.run_of_ended (hmove.trans (by rw [enumerateOn, hq]; rfl))
    | some q =>
      have hval := nextPort_eq_some.1 hq
      rw [← portsFrom_cons]
      rw [enumerateOn, hq, ← hval] at hmove
      refine Discovery.run_of_scanNext hmove (hval ▸ ih (by omega) ?_)
      rw [Discovery.next, scanResult_of_scans (hbus q)]
      have hq0 : q ≠ 0 := fun h => absurd (congrArg Fin.val h) (by omega)
      exact (if_neg hq0).trans (congrArg _ (recordPort_topologyOf codes bus q))

/-- No device of the wanted type at a port. -/
def Misses (codes : DeviceCodes) (want : DeviceType) (o : QueryOutcome) : Prop :=
  o = .failed .noResponse ∨ ∃ w, o = .value w ∧ codes.typeOf (lo8 w) ≠ want

theorem Misses.next {codes : DeviceCodes} {want : DeviceType} {o : QueryOutcome} (h : Misses codes want o) (p : Port) :
    (Discovery.find p want).next codes o =
      match nextPort p with
      | some q => .scanNext (.find q want)
      | none => .ended (.failed .deviceNotFound) := by
  obtain rfl | ⟨w, rfl, hw⟩ := h
  · rfl
  · exact if_neg fun h => hw (Option.some.inj h)

/-- A search that misses at every port left ends with `DeviceNotFound` (R365). -/
theorem run_find_missing {codes : DeviceCodes} {bus : Byte → QueryOutcome} {want : DeviceType} {n : Nat} {p : Port}
    (hn : p.val + n = 10) (hmiss : ∀ r : Port, Misses codes want (bus (portByte r))) :
    (Discovery.find p want).run codes bus n = (portsFrom p.val, .ended (.failed .deviceNotFound)) := by
  induction n generalizing p with
  | zero => exact absurd p.isLt (by omega)
  | succ n ih =>
    have hmove := (hmiss p).next p
    cases hq : nextPort p with
    | none =>
      obtain rfl := nextPort_eq_none.1 hq
      exact Discovery.run_of_ended hmove
    | some q =>
      have hval := nextPort_eq_some.1 hq
      rw [hq] at hmove
      rw [← portsFrom_cons, ← hval]
      exact Discovery.run_of_scanNext hmove (ih (by omega))

/-- A search ends at the first port of the wanted type (R365). -/
theorem run_find_found {codes : DeviceCodes} {bus : Byte → QueryOutcome} {q : Port} {v : BitVec 16} {n : Nat} {p : Port}
    (hn : p.val + n = 10) (hpq : p.val ≤ q.val) (hq : bus (portByte q) = .value v)
    (hmiss : ∀ r : Port, r < q → Misses codes (codes.typeOf (lo8 v)) (bus (portByte r))) :
    (Discovery.find p (codes.typeOf (lo8 v))).run codes bus n =
      ((portsFrom p.val).take (q.val + 1 - p.val), .ended (.foundAt q)) := by
  induction n generalizing p with
  | zero => exact absurd p.isLt (by omega)
  | succ n ih =>
    rw [← portsFrom_cons]
    obtain hpq | hlt := hpq.eq_or_lt
    · obtain rfl := Fin.ext hpq
      rw [Nat.add_sub_cancel_left, List.take_succ_cons, List.take_zero]
      refine Discovery.run_of_ended ?_
      show Discovery.next _ _ (bus (portByte p)) = _
      rw [hq]
      exact if_pos rfl
    · have hmove := (hmiss p (Fin.lt_def.2 hlt)).next p
      cases hr : nextPort p with
      | none =>
        obtain rfl := nextPort_eq_none.1 hr
        exact absurd hlt (Nat.not_lt.2 (Nat.le_of_lt_succ q.isLt))
      | some r =>
        have hval := nextPort_eq_some.1 hr
        rw [hr] at hmove
        rw [show q.val + 1 - p.val = (q.val + 1 - r.val) + 1 by omega, List.take_succ_cons, ← hval]
        exact Discovery.run_of_scanNext hmove (ih (by omega) (by omega))

/-- The topology with port 0 alone (R364). -/
theorem recordPort_empty (codes : DeviceCodes) (c : Byte) : recordPort codes 0 emptyTopology (some c) =
    Vector.ofFn fun q => if q = 0 then some { deviceType := codes.typeOf c, port := 0, revision := none } else none := by
  ext i hi : 1
  rw [recordPort_getElem, Vector.getElem_ofFn, emptyTopology, Vector.getElem_replicate]
  cases i with
  | zero => rfl
  | succ i => exact (if_neg (by omega)).trans (if_neg (fun h => absurd (congrArg Fin.val h) (Nat.succ_ne_zero i))).symm

theorem next_startEnumerate_of_hub {codes : DeviceCodes} {v : BitVec 16} (h : codes.typeOf (lo8 v) = .hub) :
    startEnumerate.next codes (.value v) = enumerateOn 0 (recordPort codes 0 emptyTopology (some (lo8 v))) := if_pos h

theorem next_startEnumerate_of_not_hub {codes : DeviceCodes} {v : BitVec 16} (h : codes.typeOf (lo8 v) ≠ .hub) :
    startEnumerate.next codes (.value v) = .ended (.topology (recordPort codes 0 emptyTopology (some (lo8 v)))) := if_neg h

/-- Settles O59: each sequence follows its scans port by port, from the result of each. -/
theorem enumerateGatesOnHub : Obligations.EnumerateGatesOnHub := by
  intro codes bus
  refine ⟨fun v hv hhub => ?_, fun v hv hhub hbus => ?_, fun hnone => ?_, fun want q v hv hwant hmiss => ?_,
    fun want hmiss => ?_, fun d k hk hfail => ?_⟩
  · rw [← recordPort_empty]
    exact Discovery.run_of_ended ((congrArg _ hv).trans (next_startEnumerate_of_not_hub hhub))
  · have hmove : startEnumerate.next codes (bus (portByte 0)) = enumerateOn 0 (topologyOf codes bus 1) := by
      have hv' : bus (portByte 0) = .value v := hv
      have hfirst : recordPort codes 0 (topologyOf codes bus 0) (bus (portByte 0)).code? = topologyOf codes bus 1 :=
        recordPort_topologyOf codes bus 0
      rw [hv', topologyOf_zero] at hfirst
      rw [hv', next_startEnumerate_of_hub hhub]
      exact congrArg _ hfirst
    have htop : topologyOf codes bus 0 = emptyTopology := topologyOf_zero codes bus
    rw [startEnumerate, ← htop] at hmove ⊢
    have hrun := run_enumerate hbus (p := 0) (n := 10) rfl hmove
    refine hrun.trans (congrArg (fun t => (portsFrom 0, HostMove.ended (.topology t))) ?_)
    ext i hi : 1
    simp only [topologyOf, Vector.getElem_ofFn, if_pos hi]
    cases bus (portByte ⟨i, hi⟩) <;> rfl
  · exact Discovery.run_of_ended ((congrArg _ hnone).trans rfl)
  · subst hwant
    exact (run_find_found (p := 0) rfl (Nat.zero_le _) hv hmiss).trans (by rw [portsFrom, List.map_take]; rfl)
  · exact run_find_missing (p := 0) rfl hmiss
  · exact Discovery.run_of_ended (by rw [hfail, Discovery.next_failed codes d hk])

end Sys2Proof.Machine

/-! ## The host sequences on the block (O60) -/

namespace Sys2Proof.Machine

theorem lo8_u16be (hi lo : Byte) : lo8 (u16be hi lo) = lo :=
  (List.cons.inj (List.cons.inj (be16_u16be hi lo)).2).1

/-- A step takes the oldest pending event. -/
theorem step_events {s t : State} (h : step s = .next t) : t.events = s.events.tail := by
  rcases step_cases h with ⟨hev, rfl⟩ | ⟨p, rest, hev, -, rfl⟩ | rfl | h
  · rw [hev, List.tail_nil]
  · rw [hev]
    rfl
  · rfl
  · exact h.events

theorem leads_uncons {P : State → Prop} {n : Nat} {s u : State} (h : Leads P (n + 1) s u) :
    P s ∧ ∃ t, step s = .next t ∧ Leads P n t u := by
  obtain ⟨hrun, hbefore⟩ := h
  obtain ⟨w, hw, hP⟩ := hbefore 0 (Nat.succ_pos n)
  cases hw
  rw [runSteps] at hrun
  cases hstep : step s with
  | next t =>
    rw [hstep] at hrun
    refine ⟨hP, t, rfl, hrun, fun k hk => ?_⟩
    obtain ⟨w, hw, hP⟩ := hbefore (k + 1) (Nat.succ_lt_succ hk)
    rw [runSteps, hstep] at hw
    exact ⟨w, hw, hP⟩
  | fault r => rw [hstep] at hrun; cases hrun
  | refused r => rw [hstep] at hrun; cases hrun

theorem runHost_succ {codes : DeviceCodes} {n : Nat} {h k : HostSystem} (hstep : hostStep codes h = .next k) :
    runHost codes (n + 1) h = runHost codes n k := by
  rw [runHost, hstep]

section
variable {codes : DeviceCodes} {d : Discovery} {n : Nat} {s b : State} {r : Bytes}

/-- A host that awaits an answer reads it when the block has sent it, and goes on from there. -/
theorem runHost_await {q : List Bytes} (hlines : ∀ ev ∈ s.events, ev.isCommand = false)
    (hleads : Leads (fun w => w.rsp = q) (n + 1) s b) (hb : b.rsp = q ++ [r]) :
    runHost codes (n + 1) { block := s, task := .await d } =
      .next { block := b, task := (d.next codes (readAnswer r)).task } := by
  induction n generalizing s with
  | zero =>
    obtain ⟨hs, t, hstep, hrun, -⟩ := leads_uncons hleads
    cases hrun
    rw [runHost_succ (hostStep_await hstep hlines), Discovery.observe_answer codes d (hb.trans (by rw [hs]))]
    rfl
  | succ n ih =>
    obtain ⟨hs, t, hstep, htail⟩ := leads_uncons hleads
    rw [runHost_succ (hostStep_await hstep hlines), Discovery.observe_silent codes d ((leads_uncons htail).1.trans hs.symm)]
    exact ih (fun ev hev => hlines ev (List.mem_of_mem_tail (step_events hstep ▸ hev))) htail

/-- A host that issues the query of a scan reads its answer when the block has sent it, and goes on from there
(R360, R361). -/
theorem runHost_issue (hlines : ∀ ev ∈ s.events, ev.isCommand = false)
    (hleads : Leads (fun w => w.rsp = s.rsp) (n + 1) { s with events := .cmd (scanCommand d.port) :: s.events } b)
    (hb : b.rsp = s.rsp ++ [r]) :
    runHost codes (n + 1) { block := s, task := .issue d } =
      .next { block := b, task := (d.next codes (readAnswer r)).task } := by
  obtain ⟨-, t, hstep, htail⟩ := leads_uncons hleads
  rw [runHost_succ (hostStep_issue hstep)]
  cases n with
  | zero =>
    obtain ⟨hrun, -⟩ := htail
    cases hrun
    rw [Discovery.observe_answer codes d hb]
    rfl
  | succ n =>
    rw [Discovery.observe_silent codes d (leads_uncons htail).1]
    have hevents : t.events = s.events := step_events hstep
    exact runHost_await (fun ev hev => hlines ev (hevents ▸ hev)) htail hb

end

theorem readAnswer_value (v : BitVec 16) : readAnswer (valueRsp (be16 v)) = .value v :=
  congrArg QueryOutcome.value (u16be_hi8_lo8 v)

theorem readAnswer_error {k : ErrKind} (hk : k ≠ .none) (info : BitVec 16) :
    readAnswer (errorRsp (k.code.zeroExtend 8) info) = .failed k := by
  cases k with
  | none => exact absurd rfl hk
  | _ => rfl

/-! One scan on the block. -/

theorem responseEvents_not_command (cfg : Cfg) (sender : Byte) (r : Bytes) :
    ∀ ev ∈ responseEvents cfg sender r, ev.isCommand = false := by
  intro ev hev
  rw [responseEvents] at hev
  cases htransport : cfg.transport with
  | ser9 =>
    rw [htransport] at hev
    obtain hmem | hmem := List.mem_append.1 hev
    · obtain ⟨c, -, rfl⟩ := List.mem_map.1 hmem
      rfl
    · rw [List.eq_of_mem_replicate hmem]
      rfl
  | pjon =>
    rw [htransport] at hev
    obtain ⟨b, -, rfl⟩ := List.mem_map.1 hev
    rfl

section
variable {s : State} (hidle : s.Idle) (hcfg : s.ConfigLoaded) (hrxq : s.rxq = []) (codes : DeviceCodes) {d : Discovery}
  {p : Port} (hport : d.port = portByte p)
include hidle hcfg hrxq hport

/-- A silent line: the scan fails with `NoResponse` after all its attempts, and leaves an idle block (R337 (a), R361). -/
theorem runHost_scan_silent {n : Nat} {rest : List Event}
    (hn : n = (s.cfg.retryPacket.toNat + 1) * s.cfg.rxTimeout.toNat) (hrest : ∀ ev ∈ rest, ev.isCommand = false)
    (hev : s.events = List.replicate n .tick ++ rest) :
    ∃ u : State, runHost codes (1 + n) { block := s, task := .issue d } =
        .next { block := u, task := (d.next codes (.failed .noResponse)).task } ∧
      u.Idle ∧ u.params = s.params ∧ u.cfg = s.cfg ∧ u.rxq = [] ∧ u.events = rest ∧
      u.lineTx = s.lineTx ++ (List.replicate (s.cfg.retryPacket.toNat + 1)
        (requestTrace s.cfg (packetBody (portByte p) 2 0x0000 0))).flatten := by
  obtain ⟨htimeout, heop, -⟩ := hcfg.timeouts
  have hstep := step_exchange (s := { s with events := .cmd (scanCommand d.port) :: s.events }) hidle hrxq .query
    (port := portByte p) (ty := 2) (e := none) 0 0 (by rw [portByte_toNat]; omega) (by decide) (by decide) (rest := s.events)
    (by rw [hport]; rfl)
  have hbegin := sending_begin (port := portByte p) (ty := 2) (e := none) (rest := s.events) hidle hrxq .query 0 0
  obtain ⟨hbefore, last, z, t, hz, ht, hlast⟩ := hbegin.silent htimeout heop (by decide) s.cfg.retryPacket.toNat
    (rest := rest) (Nat.zero_add _) (by rw [← hn]; exact hev)
  rw [← hn] at hbefore hlast
  have hleads := (Leads.step (P := fun w => w.rsp = s.rsp) hstep rfl).trans
    ⟨hlast, fun k hk => (hbefore k hk).imp fun u hu => ⟨hu.1, hu.2.2.1⟩⟩
  have hrsp := congrArg (· ++ [errorRsp 0x01 0]) (ht.rsp.trans hz.rsp)
  have hline := hz.line_after ht
  rw [Nat.add_comm 1 n] at hleads ⊢
  refine ⟨_, runHost_issue (fun ev hmem => ?_) hleads hrsp, ⟨.inr (.inr rfl), ht.t9, ht.pjf⟩,
    ht.frame.params.trans ((State.sentAttempt_params z).trans hz.params), ht.cfg.trans hz.cfg, ht.rxq, ht.events, hline⟩
  rw [hev] at hmem
  obtain hmem | hmem := List.mem_append.1 hmem
  · rw [List.eq_of_mem_replicate hmem]
    rfl
  · exact hrest ev hmem

/-- A response that accepts: the scan reads its value (R335, R361). -/
theorem runHost_scan_answered {sender st hi lo : Byte} (hst : st.toNat < 128)
    (hev : s.events = responseEvents s.cfg sender [st, hi, lo]) :
    ∃ u : State, runHost codes (1 + s.events.length) { block := s, task := .issue d } =
        .next { block := u, task := (d.next codes (.value (u16be hi lo))).task } ∧
      u.lineTx = s.lineTx ++ requestTrace s.cfg (packetBody (portByte p) 2 0x0000 0) := by
  obtain ⟨htimeout, heop, hmax⟩ := hcfg.timeouts
  have hstep := step_exchange (s := { s with events := .cmd (scanCommand d.port) :: s.events }) hidle hrxq .query
    (port := portByte p) (ty := 2) (e := none) 0 0 (by rw [portByte_toNat]; omega) (by decide) (by decide) (rest := s.events)
    (by rw [hport]; rfl)
  have hbegin := sending_begin (port := portByte p) (ty := 2) (e := none) (rest := s.events) hidle hrxq .query 0 0
  obtain ⟨t, ht, -, hdone⟩ := hbegin.accepted (rest := []) hmax htimeout heop (by decide) sender st (p := [hi, lo]) hst
    (List.cons_ne_nil hi [lo])
    (fun _ => ⟨Nat.le_trans (show 5 ≤ 255 by decide) hmax, fun v hv => by cases hv; exact Nat.le_refl 2⟩)
    (fun _ => show 2 ≤ 245 by decide)
    (by rw [List.append_nil]; exact hev)
  obtain ⟨k, info, hanswer, -⟩ := State.answer_of_resting (u := { t with xchResp := [hi, lo], xchState := .done })
    (.inr (.inl rfl)) (xchPayloadResult .query [hi, lo])
  rw [hanswer, ← hev, xchPayloadResult_rsp] at hdone
  have hleads := (Leads.step (P := fun w => w.rsp = s.rsp) hstep rfl).trans (hdone.mono fun w hw => hbegin.awaits hw)
  have hrsp := congrArg (· ++ [valueRsp [hi, lo]]) (ht.rsp.trans hbegin.rsp)
  have hline := hbegin.line_after ht
  rw [Nat.add_comm] at hleads ⊢
  refine ⟨_, runHost_issue (fun ev hmem => ?_) hleads hrsp, hline.trans ?_⟩
  · rw [hev] at hmem
    exact responseEvents_not_command _ _ _ ev hmem
  · exact congrArg _ (List.append_nil _)

end

/-- A search on a silent line goes through all the ports left (R337 (a), R365). -/
theorem runHost_find_silent (codes : DeviceCodes) (want : DeviceType) {n m : Nat} {s : State} {p : Port}
    (hm : p.val + m = 10) (hidle : s.Idle) (hcfg : s.ConfigLoaded) (hrxq : s.rxq = [])
    (hn : n = (s.cfg.retryPacket.toNat + 1) * s.cfg.rxTimeout.toNat) (hev : s.events = List.replicate (m * n) .tick) :
    ∃ u : State, runHost codes (m * (1 + n)) { block := s, task := .issue (.find p want) } =
        .next { block := u, task := .ended (.failed .deviceNotFound) } ∧
      u.lineTx = s.lineTx ++ (portsFrom p.val).flatMap fun b => (List.replicate (s.cfg.retryPacket.toNat + 1)
        (requestTrace s.cfg (packetBody b 2 0x0000 0))).flatten := by
  induction m generalizing s p with
  | zero => exact absurd p.isLt (by omega)
  | succ m ih =>
    obtain ⟨u, hrun, huidle, hparams, hucfg, hurxq, huev, huline⟩ := runHost_scan_silent hidle hcfg hrxq codes
      (d := .find p want) rfl (rest := List.replicate (m * n) .tick) hn
      (fun ev hmem => by rw [List.eq_of_mem_replicate hmem]; rfl)
      (by rw [hev, List.replicate_append_replicate, Nat.succ_mul, Nat.add_comm])
    rw [(show Misses codes want (.failed .noResponse) from .inl rfl).next p] at hrun
    rw [Nat.succ_mul, Nat.add_comm (m * _), runHost_add hrun, ← portsFrom_cons, List.flatMap_cons, ← List.append_assoc,
      ← huline]
    cases hq : nextPort p with
    | none =>
      obtain rfl := nextPort_eq_none.1 hq
      obtain rfl : m = 0 := by omega
      exact ⟨u, by rw [Nat.zero_mul]; rfl, (List.append_nil _).symm⟩
    | some q =>
      have hval := nextPort_eq_some.1 hq
      rw [← hval, ← hucfg]
      exact ih (by omega) huidle ⟨hparams ▸ hcfg.1, by rw [hucfg, hparams, hcfg.2]⟩ hurxq (by rw [hucfg]; exact hn) huev

theorem next_startScan (codes : DeviceCodes) (port : Byte) (v : BitVec 16) :
    (startScan port).next codes (.value v) = .ended (.scanned (some (lo8 v))) := rfl

/-- A well-formed operation, given as its command, runs as it is. -/
theorem runCommand_encode {i : Instr} (hwf : i.wf = true) (s : State) : runCommand (encode i) s = exec i s := by
  rw [runCommand, decodeOfEncode i hwf]

/-- Settles O60: a host reads each answer as it was sent, scan by scan. -/
theorem discoveryDrivesBlock : Obligations.DiscoveryDrivesBlock := by
  refine ⟨?_, readAnswer_value, fun k info hk => readAnswer_error hk info, ?_, ?_, fun port => ⟨?_, ?_⟩, ?_⟩
  · rintro codes ⟨s, task⟩ d n s' b r rfl hlines rfl hbefore hrun hb
    exact runHost_issue hlines ⟨hrun, fun k hk => hbefore k (Nat.le_of_lt_succ hk)⟩ hb
  · refine fun codes s n hidle hcfg hrxq hn => ⟨fun hev => ?_, fun want hev => ?_⟩
    · have hscan {d : Discovery} {p : Port} (hport : d.port = portByte p) := runHost_scan_silent hidle hcfg hrxq codes hport
        (rest := []) hn (fun ev hmem => absurd hmem List.not_mem_nil) (hev.trans (List.append_nil _).symm)
      refine ⟨fun p => ?_, ?_⟩
      · obtain ⟨u, hrun, -⟩ := hscan (d := startScan (portByte p)) (p := p) rfl
        exact ⟨u, hrun⟩
      · obtain ⟨u, hrun, -⟩ := hscan (d := startEnumerate) (p := 0) rfl
        exact ⟨u, hrun⟩
    · obtain ⟨u, hrun, hline⟩ := runHost_find_silent codes want (p := 0) (m := 10) rfl hidle hcfg hrxq hn hev
      exact ⟨u, hrun, hline.trans (by rw [portsFrom, List.flatMap_map]; rfl)⟩
  · intro codes s sender st hi lo hidle hcfg hrxq hst hev
    have hscan {d : Discovery} {p : Port} (hport : d.port = portByte p) :=
      runHost_scan_answered hidle hcfg hrxq codes hport hst hev
    refine ⟨fun p => ?_, fun hhub => ?_, fun hhub => ?_⟩
    · obtain ⟨u, hrun, -⟩ := hscan (d := startScan (portByte p)) (p := p) rfl
      rw [next_startScan, lo8_u16be] at hrun
      exact ⟨u, hrun⟩
    · obtain ⟨u, hrun, hline⟩ := hscan (d := startEnumerate) (p := 0) rfl
      rw [next_startEnumerate_of_not_hub (by rw [lo8_u16be]; exact hhub), lo8_u16be, recordPort_empty] at hrun
      exact ⟨u, hrun, hline⟩
    · obtain ⟨u, hrun, -⟩ := hscan (d := startEnumerate) (p := 0) rfl
      rw [next_startEnumerate_of_hub (by rw [lo8_u16be]; exact hhub), lo8_u16be, recordPort_empty, hhub] at hrun
      exact ⟨u, hrun⟩
  · exact fun h => dif_neg (by omega)
  · intro h
    refine ⟨_, dif_pos (Nat.lt_succ_of_le h), ?_⟩
    exact BitVec.eq_of_toNat_eq (portByte_toNat _)
  · intro ses s reg v
    have hquery (param : BitVec 16) : runSessionQuery ses s reg param = exec (.xchQuery (portByte ses.port) reg param) s :=
      runCommand_encode rfl s
    have hcontrol : runSessionControl ses s reg v = exec (.xchControl (portByte ses.port) reg v) s :=
      runCommand_encode rfl s
    refine ⟨hquery 0, hquery v, hcontrol, fun hbusy => ?_⟩
    rw [hquery, hcontrol]
    exact ⟨busyRefusesEveryOperation s _ hbusy (fun h => by cases h), busyRefusesEveryOperation s _ hbusy (fun h => by cases h)⟩

end Sys2Proof.Machine

/-! ## What the registers that hold no value yield (O12)

`Unheard` is a part of a step that makes neither `RXBUF` nor `PJF.SENDER` readable, `HoldsFrame` one that ends with a
frame that passed every check in `RXBUF`; every receive, and every exchange around it, is one or the other. -/

namespace Sys2Proof.Machine

/-- Neither `RXBUF` nor `PJF.SENDER` has become readable (R39). -/
structure Unheard (s t : State) : Prop where
  rxbuf : t.rxbufValid = true → s.rxbufValid = true
  sender : t.pjfSenderValid = true → s.pjfSenderValid = true

/-- `RXBUF` is readable and holds a frame from `source` that passes every check, whose sender is in `PJF.SENDER` (R39). -/
structure HoldsFrame (s : State) (source : Bytes → Prop) (t : State) : Prop where
  valid : t.rxbufValid = true
  verdict : pjonVerdict s.cfg.deviceId t.rxbuf = none
  sender : t.readPjfSender = some (t.rxbuf.getD 4 0)
  source : source t.rxbuf

/-- What R39 is about is unchanged. -/
structure SameReads (s t : State) : Prop where
  rxbuf : t.rxbuf = s.rxbuf := by rfl
  valid : t.rxbufValid = s.rxbufValid := by rfl
  sender : t.pjfSender = s.pjfSender := by rfl
  senderValid : t.pjfSenderValid = s.pjfSenderValid := by rfl

section
variable {s t u : State} {source source' : Bytes → Prop}

theorem SameReads.trans (hst : SameReads s t) (htu : SameReads t u) : SameReads s u where
  rxbuf := htu.rxbuf.trans hst.rxbuf
  valid := htu.valid.trans hst.valid
  sender := htu.sender.trans hst.sender
  senderValid := htu.senderValid.trans hst.senderValid

theorem SameReads.readRxbuf (h : SameReads s t) : t.readRxbuf = s.readRxbuf := by
  rw [State.readRxbuf, State.readRxbuf, h.valid, h.rxbuf]

theorem SameReads.readPjfSender (h : SameReads s t) : t.readPjfSender = s.readPjfSender := by
  rw [State.readPjfSender, State.readPjfSender, h.senderValid, h.sender]

theorem SameReads.unheard (h : SameReads s t) : Unheard s t := ⟨fun hv => h.valid ▸ hv, fun hv => h.senderValid ▸ hv⟩

theorem Unheard.trans (hst : Unheard s t) (htu : Unheard t u) : Unheard s u :=
  ⟨fun h => hst.rxbuf (htu.rxbuf h), fun h => hst.sender (htu.sender h)⟩

/-- `RXBUF` is no frame that may be read. -/
theorem Unheard.of_invalid (hvalid : t.rxbufValid = false) (hsender : t.pjfSenderValid = s.pjfSenderValid) : Unheard s t :=
  ⟨fun h => absurd (hvalid.symm.trans h) Bool.false_ne_true, fun h => hsender ▸ h⟩

theorem HoldsFrame.same (h : HoldsFrame s source t) (htu : SameReads t u) : HoldsFrame s source u where
  valid := htu.valid.trans h.valid
  verdict := htu.rxbuf ▸ h.verdict
  sender := by rw [htu.readPjfSender, htu.rxbuf, h.sender]
  source := htu.rxbuf ▸ h.source

theorem HoldsFrame.rebase (h : HoldsFrame t source u) (hcfg : t.cfg = s.cfg) (hsource : ∀ f, source f → source' f) :
    HoldsFrame s source' u where
  valid := h.valid
  verdict := hcfg ▸ h.verdict
  sender := h.sender
  source := hsource _ h.source

theorem answer_sameReads (r : OpResult) (s : State) : SameReads s (s.answer r) := by
  obtain ⟨k, info, l, he⟩ := State.answer_frame r s
  rw [he]
  exact {}

theorem refuse_sameReads (k : ErrKind) (info : BitVec 16) (s : State) : SameReads s (s.refuse k info) := by
  by_cases h : s.Idle
  · rw [State.refuse_of_idle h]
    exact {}
  · rw [State.refuse_of_busy h]
    exact {}

end

/-! The bytes that wait in `RXQ`. -/

/-- The bytes hold a whole frame `f` in its wire form (R99). -/
def WaitsIn (f bs : Bytes) : Prop :=
  ∃ pre enc post : Bytes, unescape enc = .ok f ∧ bs = pre ++ 0x95 :: (enc ++ 0xEA :: post)

theorem frameWaiting_iff (q : List RxItem) (f : Bytes) : FrameWaiting q f ↔ WaitsIn f (rxqBytes q) := Iff.rfl

theorem WaitsIn.of_suffix {f bs cs : Bytes} (h : WaitsIn f bs) (hsuffix : bs <:+ cs) : WaitsIn f cs := by
  obtain ⟨pre, enc, post, hf, rfl⟩ := h
  obtain ⟨front, rfl⟩ := hsuffix
  exact ⟨front ++ pre, enc, post, hf, (List.append_assoc _ _ _).symm⟩

/-! The deframer: what it holds is what the bytes since `START` spell (R188). -/

/-- `enc` decodes to `f`, whatever decodes behind it. -/
def Spells (enc f : Bytes) : Prop :=
  ∀ (i : Nat) (e g : Bytes), (∀ j, unescapeFrom j e = .ok g) → unescapeFrom i (enc ++ e) = .ok (f ++ g)

theorem Spells.nil : Spells [] [] := fun i _ _ h => h i

theorem Spells.unescape {enc f : Bytes} (h : Spells enc f) : unescape enc = .ok f := by
  have hend := h 0 [] [] (fun _ => rfl)
  rwa [List.append_nil, List.append_nil] at hend

theorem Spells.copy {enc f : Bytes} (h : Spells enc f) {b : Byte} (hstart : b ≠ 0x95) (hend : b ≠ 0xEA) (hesc : b ≠ 0xBB) :
    Spells (enc ++ [b]) (f ++ [b]) := by
  intro i e g he
  rw [List.append_assoc, List.append_assoc]
  exact h i (b :: e) (b :: g) fun j => by rw [unescapeFrom_copy hstart hend hesc, he]; rfl

theorem Spells.pair {enc f : Bytes} (h : Spells enc f) {c : Byte} (hstart : c ≠ 0x95) (hend : c ≠ 0xEA) :
    Spells (enc ++ [0xBB] ++ [c]) (f ++ [c ^^^ 0xBB]) := by
  intro i e g he
  rw [List.append_assoc, List.append_assoc, List.append_assoc]
  exact h i (0xBB :: c :: e) ((c ^^^ 0xBB) :: g) fun j => by rw [unescapeFrom_pair hstart hend, he]; rfl

/-- The deframer of `s` has taken the bytes `bs`. -/
inductive Deframed (bs : Bytes) (s : State) : Prop
  | hunt (hstate : s.escState = .hunt)
  | body (hstate : s.escState = .body) (pre enc : Bytes) (hbs : bs = pre ++ 0x95 :: enc) (hspells : Spells enc s.rxbuf)
  | escaped (hstate : s.escState = .escaped) (pre enc : Bytes) (hbs : bs = pre ++ 0x95 :: (enc ++ [0xBB]))
    (hspells : Spells enc s.rxbuf)

section
variable {bs : Bytes} {s : State}

theorem Deframed.in_body (h : Deframed bs s) (hstate : s.escState = .body) :
    ∃ pre enc, bs = pre ++ 0x95 :: enc ∧ Spells enc s.rxbuf := by
  cases h with
  | hunt h => rw [hstate] at h; cases h
  | body _ pre enc hbs hspells => exact ⟨pre, enc, hbs, hspells⟩
  | escaped h => rw [hstate] at h; cases h

theorem Deframed.in_escaped (h : Deframed bs s) (hstate : s.escState = .escaped) :
    ∃ pre enc, bs = pre ++ 0x95 :: (enc ++ [0xBB]) ∧ Spells enc s.rxbuf := by
  cases h with
  | hunt h => rw [hstate] at h; cases h
  | body h => rw [hstate] at h; cases h
  | escaped _ pre enc hbs hspells => exact ⟨pre, enc, hbs, hspells⟩

/-- A byte that the deframer stores. -/
theorem deframed_store {cs pre enc : Bytes} {d : Byte} (hcs : cs = pre ++ 0x95 :: enc)
    (hspells : Spells enc (s.rxbuf ++ [d])) : Deframed cs (deframeStore d s).1 := by
  rcases deframeStore_cases d s with ⟨-, he⟩ | ⟨-, he⟩ <;> rw [he]
  · exact .body rfl pre enc hcs hspells
  · exact .hunt rfl

/-- One more byte. -/
theorem Deframed.byte (h : Deframed bs s) (b : Byte) : Deframed (bs ++ [b]) (deframeByte b s).1 := by
  rcases deframeByte_cases b s with ⟨rfl, he⟩ | ⟨-, hstate, he⟩ | ⟨-, -, he⟩ | ⟨rfl, hstate, he⟩ |
    ⟨hstart, hend, hesc, hstate, he⟩ | ⟨-, -, he⟩ | ⟨hstart, hend, hstate, he⟩ <;> rw [he]
  · exact .body rfl bs [] rfl .nil
  · exact .hunt hstate
  · exact .hunt rfl
  · obtain ⟨pre, enc, rfl, hspells⟩ := h.in_body hstate
    exact .escaped rfl pre enc (List.append_assoc _ _ _) hspells
  · obtain ⟨pre, enc, rfl, hspells⟩ := h.in_body hstate
    exact deframed_store (List.append_assoc pre _ _) (hspells.copy hstart hend hesc)
  · exact .hunt rfl
  · obtain ⟨pre, enc, rfl, hspells⟩ := h.in_escaped hstate
    exact deframed_store (List.append_assoc pre _ _) (hspells.pair hstart hend)

/-- Where a frame is complete: `END` behind `RXBUF` (R188). -/
theorem deframeByte_eq_frame {b : Byte} {f : Bytes} (h : (deframeByte b s).2 = .frame f) :
    b = 0xEA ∧ s.escState = .body ∧ f = s.rxbuf ∧ deframeByte b s = ({ s with escState := .hunt }, .frame s.rxbuf) := by
  have store : ∀ d, (deframeStore d s).2 ≠ .frame f := by
    intro d
    rcases deframeStore_cases d s with ⟨-, he⟩ | ⟨-, he⟩ <;> rw [he] <;> exact fun h => by cases h
  rcases deframeByte_cases b s with ⟨-, he⟩ | ⟨-, -, he⟩ | ⟨hb, hstate, he⟩ | ⟨-, -, he⟩ | ⟨-, -, -, -, he⟩ | ⟨-, -, he⟩ |
    ⟨-, -, -, he⟩
  · rw [he] at h; cases h
  · rw [he] at h; cases h
  · rw [he] at h; cases h; exact ⟨hb, hstate, rfl, he⟩
  · rw [he] at h; cases h
  · rw [he] at h; exact absurd h (store _)
  · rw [he] at h; cases h
  · rw [he] at h; exact absurd h (store _)

/-- The `END` behind what the bytes spell makes them hold the frame. -/
theorem Deframed.waitsIn (h : Deframed bs s) (hstate : s.escState = .body) (post : Bytes) :
    WaitsIn s.rxbuf (bs ++ 0xEA :: post) := by
  obtain ⟨pre, enc, rfl, hspells⟩ := h.in_body hstate
  exact ⟨pre, enc, post, hspells.unescape, List.append_assoc _ _ _⟩

theorem deframeByte_unheard (b : Byte) (s : State) : Unheard s (deframeByte b s).1 := by
  refine ⟨deframeByte_valid b s, ?_⟩
  obtain ⟨e, rx, tag, v, hstate, -⟩ := deframeByte_frame b s
  rw [hstate]
  exact id

end

/-! Receives. -/

/-- A receive, seen from the state `s` in which it began or went on: it has returned a frame from `source`, or no data and
made nothing readable. -/
def Yields (s : State) (source : Bytes → Prop) (v : State × Option OpResult) : Prop :=
  (Unheard s v.1 ∧ ∀ d, v.2 ≠ some (.value d)) ∨ ∃ d, v.2 = some (.value d) ∧ HoldsFrame s source v.1

section
variable {s t : State} {source source' : Bytes → Prop} {v : State × Option OpResult}

theorem yields_running (h : Unheard s t) (source : Bytes → Prop) : Yields s source (t, none) :=
  .inl ⟨h, fun _ h => by cases h⟩

theorem yields_noValue (h : Unheard s t) (source : Bytes → Prop) : Yields s source (t, some .noValue) :=
  .inl ⟨h, fun _ h => by cases h⟩

theorem yields_err (h : Unheard s t) (source : Bytes → Prop) (k : ErrKind) (info : BitVec 16) :
    Yields s source (t, some (.err k info)) :=
  .inl ⟨h, fun _ h => by cases h⟩

/-- A part of an operation in front of a receive, which makes nothing readable. -/
theorem Yields.rebase (h : Yields t source v) (hst : Unheard s t) (hcfg : t.cfg = s.cfg)
    (hsource : ∀ f, source f → source' f) : Yields s source' v := by
  obtain ⟨hquiet, hdata⟩ | ⟨d, hd, hframe⟩ := h
  · exact .inl ⟨hst.trans hquiet, hdata⟩
  · exact .inr ⟨d, hd, hframe.rebase hcfg hsource⟩

/-- A parse that finds an error makes no sender readable (R207, R213). -/
theorem pjonParse_unheard {f : Bytes} {k : ErrKind} {info : BitVec 16}
    (h : pjonVerdict s.cfg.deviceId f = some (k, info)) : Unheard s (pjonParse f s).1 := by
  obtain ⟨-, -, hremote, hother⟩ := pjonParse_of_verdict_some h
  obtain ⟨hdr, c8, c32, snd, valid, hstate, -⟩ := pjonParse_frame f s
  refine ⟨by rw [hstate]; exact id, fun hv => ?_⟩
  by_cases hk : k = .remoteError
  · rw [hremote hk] at hv
    cases hv
  · rwa [(hother hk).2] at hv

/-- The end of a receive with a complete frame in `RXBUF` (R214). -/
theorem pjfEnd_yields {w : State} (hw : SameReads s w) (hcfg : w.cfg = s.cfg) :
    Yields s (· = s.rxbuf) ((pjfEnd (pjonParse s.rxbuf w)).1, some (pjfEnd (pjonParse s.rxbuf w)).2) := by
  cases hverdict : pjonVerdict w.cfg.deviceId s.rxbuf with
  | none =>
    obtain ⟨-, c8, c32, he⟩ := pjonParse_of_verdict_none hverdict
    rw [he]
    exact .inr ⟨_, rfl,
      { valid := rfl
        verdict := (congrArg₂ (fun (c : Cfg) f => pjonVerdict c.deviceId f) hcfg.symm hw.rxbuf).trans hverdict
        sender := congrArg (fun f : Bytes => some (f.getD 4 0)) hw.rxbuf.symm
        source := hw.rxbuf }⟩
  | some e =>
    obtain ⟨k, info⟩ := e
    have hquiet := hw.unheard.trans (pjonParse_unheard hverdict)
    have herr := (pjonParse_of_verdict_some hverdict).2.1
    generalize pjonParse s.rxbuf w = v at *
    obtain ⟨u, r⟩ := v
    rcases pjfEnd_cases u r with ⟨i, -, he⟩ | ⟨k', i, -, -, he⟩ | ⟨hno, -⟩
    · rw [he]
      exact yields_noValue (hquiet.trans (SameReads.unheard {})) _
    · rw [he]
      exact yields_err (hquiet.trans (SameReads.unheard {})) _ _ _
    · exact absurd herr (hno k info)

/-- A byte during a receive returns a frame only where it is the `END` behind the frame (R188, R214). -/
theorem pjfByte_yields (b : Byte) (s : State) :
    Yields s (fun f => b = 0xEA ∧ s.escState = .body ∧ f = s.rxbuf) (pjfByte b s) := by
  have htimer : SameReads s { s with pjfTimer := s.pjfTimeout } := {}
  have hbyte := htimer.unheard.trans (deframeByte_unheard b { s with pjfTimer := s.pjfTimeout })
  rcases pjfByte_cases b s with ⟨-, he⟩ | ⟨info, -, he⟩ | ⟨f, hf, he⟩
  · rw [he]
    exact yields_running hbyte _
  · rw [he]
    exact yields_err (hbyte.trans (SameReads.unheard {})) _ _ _
  · obtain ⟨hb, hstate, rfl, hdeframe⟩ := deframeByte_eq_frame hf
    rw [he, hdeframe]
    exact Yields.rebase (pjfEnd_yields {} rfl) (SameReads.unheard {}) rfl fun f hf => ⟨hb, hstate, hf⟩

/-- A byte that does not end a receive is the deframer's. -/
theorem Deframed.pjfByte {bs : Bytes} (h : Deframed bs s) {b : Byte} (hnone : (pjfByte b s).2 = none) :
    Deframed (bs ++ [b]) (pjfByte b s).1 := by
  have htimer : Deframed bs { s with pjfTimer := s.pjfTimeout } := by
    cases h with
    | hunt h => exact .hunt h
    | body h pre enc hbs hspells => exact .body h pre enc hbs hspells
    | escaped h pre enc hbs hspells => exact .escaped h pre enc hbs hspells
  rcases pjfByte_cases b s with ⟨-, he⟩ | ⟨info, -, he⟩ | ⟨f, -, he⟩
  · rw [he]
    exact htimer.byte b
  · rw [he] at hnone; cases hnone
  · rw [he] at hnone; cases hnone

theorem pjfTick_yields (source : Bytes → Prop) (s : State) : Yields s source (pjfTick s) := by
  rcases pjfTick_cases s with ⟨-, he⟩ | ⟨-, he⟩ <;> rw [he]
  · exact yields_running (SameReads.unheard {}) _
  · refine yields_noValue ?_ _
    exact .of_invalid rfl rfl

/-- The waiting bytes are taken up to the one that ends the receive, which returns only a frame that waits there
(R214). -/
theorem pjfDrain_yields {kept q : List RxItem} {bs : Bytes} (hkept : rxqBytes kept = []) (h : Deframed bs s) :
    Yields s (WaitsIn · (bs ++ rxqBytes q)) (pjfDrain kept q s) ∧ rxqBytes (pjfDrain kept q s).1.rxq <:+ rxqBytes q := by
  induction q generalizing kept bs s with
  | nil => exact ⟨yields_running (SameReads.unheard {}) _, hkept ▸ List.suffix_refl _⟩
  | cons x q ih =>
    cases x with
    | char c =>
      rw [pjfDrain_char, rxqBytes_cons_char]
      exact ih (by rw [rxqBytes_append, hkept]; rfl) h
    | byte b =>
      have hbyte := pjfByte_yields b s
      have hnext := h.pjfByte (b := b)
      have hcfg := (pjfByte_receives b s).frame.cfg
      rw [pjfDrain_byte, rxqBytes_cons_byte]
      generalize pjfByte b s = v at *
      obtain ⟨t, _ | r⟩ := v
      · obtain ⟨hrest, hsuffix⟩ := ih hkept (hnext rfl)
        rw [List.append_assoc] at hrest
        obtain ⟨hquiet, -⟩ | ⟨d, hd, -⟩ := hbyte
        · exact ⟨hrest.rebase hquiet hcfg fun _ => id, hsuffix.trans (List.suffix_cons _ _)⟩
        · cases hd
      · refine ⟨?_, ?_⟩
        · obtain ⟨hquiet, hdata⟩ | ⟨d, hd, hframe⟩ := hbyte
          · exact .inl ⟨hquiet.trans (SameReads.unheard {}), hdata⟩
          · refine .inr ⟨d, hd, (hframe.rebase rfl ?_).same {}⟩
            rintro f ⟨rfl, hstate, rfl⟩
            exact h.waitsIn hstate _
        · show rxqBytes (kept ++ q) <:+ _
          rw [rxqBytes_append, hkept]
          exact List.suffix_cons _ _

theorem pjfStart_yields (t : BitVec 32) (s : State) :
    Yields s (FrameWaiting s.rxq) (pjfStart t s) ∧ rxqBytes (pjfStart t s).1.rxq <:+ rxqBytes s.rxq := by
  obtain ⟨h, hsuffix⟩ := pjfDrain_yields (s := { s.clearRx with
    pjfRxstate := .listen, pjfTimer := t, pjfTimeout := t, escState := .hunt }) (kept := []) (q := s.rxq) rfl
    (.hunt rfl : Deframed [] _)
  exact ⟨h.rebase (.of_invalid rfl rfl) rfl fun _ => id, hsuffix⟩

theorem t9Char_unheard (c : BitVec 11) (s : State) : Unheard s (t9Char c s) := by
  rcases t9Char_cases c s with ⟨-, he⟩ | ⟨-, -, he⟩ | ⟨-, -, he⟩ <;> rw [he]
  · exact SameReads.unheard {}
  · exact (.of_invalid rfl rfl)
  · exact SameReads.unheard {}

theorem foldl_t9Char_unheard (cs : List (BitVec 11)) (s : State) : Unheard s (cs.foldl (fun u c => t9Char c u) s) := by
  induction cs generalizing s with
  | nil => exact SameReads.unheard {}
  | cons c cs ih => exact (t9Char_unheard c s).trans (ih _)

/-- The start of a 9-bit receive takes no byte. -/
theorem t9Start_unheard (t : BitVec 32) (e : Option (BitVec 16)) (s : State) :
    Unheard s (t9Start t e s) ∧ rxqBytes (t9Start t e s).rxq = rxqBytes s.rxq := by
  constructor
  · rw [t9Start]
    refine Unheard.trans ?_ (foldl_t9Char_unheard _ _)
    exact .of_invalid rfl rfl
  · obtain ⟨rx, tag, v, ovf, ferr, st, tm, he, -⟩ := t9Start_frame t e s
    rw [he]
    exact (congrArg rxqBytes (rxqWithoutChars_eq s.rxq)).trans (rxqBytes_map_byte _)

/-- A tick of a 9-bit receive makes no sender readable, and `RXBUF` only where it returns data (R280). -/
theorem t9Tick_yields (source : Bytes → Prop) (s : State) :
    Yields s source (t9Tick s) ∨ ∃ t d, t9Tick s = (t, some (.value d)) ∧ t.t9State = .off ∧
      t.pjfRxstate = s.pjfRxstate ∧ t.rsp = s.rsp ∧ (t.pjfSenderValid = true → s.pjfSenderValid = true) := by
  rcases t9Tick_cases s with ⟨-, he⟩ | ⟨-, -, he⟩ | ⟨-, -, he⟩ | ⟨-, -, he⟩
  · rw [he]; exact .inl (yields_running (SameReads.unheard {}) _)
  · rw [he]; exact .inl (yields_running (SameReads.unheard {}) _)
  · rw [he]; exact .inl (yields_noValue (SameReads.unheard {}) _)
  · rw [he]
    obtain ⟨n, acc, -, ⟨d, -, hfinish⟩ | ⟨k, info, -, hfinish⟩⟩ := t9Finish_frame { s with t9Timer := 0, t9State := .off }
    · rw [hfinish]
      exact .inr ⟨_, d, rfl, rfl, rfl, rfl, id⟩
    · rw [hfinish]
      refine .inl (yields_err ?_ _ _ _)
      exact ⟨id, id⟩

end

/-! What an event that a receive handles leaves in `RXQ`. -/

theorem pjfByte_rxq (b : Byte) (s : State) : (pjfByte b s).1.rxq = s.rxq :=
  congrArg (fun v => v.1.rxq) (pjfByte_withRxq s s.rxq b)

theorem pjfTick_rxq (s : State) : (pjfTick s).1.rxq = s.rxq := by
  rcases pjfTick_cases s with ⟨-, he⟩ | ⟨-, he⟩ <;> rw [he]

theorem t9Tick_rxq (s : State) : (t9Tick s).1.rxq = s.rxq := by
  rcases t9Tick_cases s with ⟨-, he⟩ | ⟨-, -, he⟩ | ⟨-, -, he⟩ | ⟨-, -, he⟩ <;> rw [he]
  obtain ⟨n, acc, -, ⟨d, -, hfinish⟩ | ⟨k, info, -, hfinish⟩⟩ := t9Finish_frame { s with t9Timer := 0, t9State := .off } <;>
    rw [hfinish]
  rfl

/-! The exchange around its receives. -/

/-- The attempt of an exchange hears what its receive hears. -/
theorem xchAttempt_yields (s : State) :
    Yields s (FrameWaiting s.rxq) (xchAttempt s) ∧ rxqBytes (xchAttempt s).1.rxq <:+ rxqBytes s.rxq := by
  obtain ⟨tx, acc, c8, c32, pm, line, he⟩ := xchTransmit_frame { s with xchAttempts := s.xchAttempts + 1 }
  rw [xchAttempt, he, xchListen]
  split
  · obtain ⟨hquiet, hrxq⟩ := t9Start_unheard s.cfg.rxTimeout (s.xchExplen.map (· + 1)) { s with
      xchAttempts := s.xchAttempts + 1, txbuf := tx, chk16Acc := acc, crc8Reg := c8, crc32Reg := c32, s9Pmode := pm
      lineTx := line, xchState := .awaitingResponse }
    refine ⟨yields_running ?_ _, hrxq ▸ List.suffix_refl _⟩
    exact (SameReads.unheard {}).trans hquiet
  · obtain ⟨hheard, hsuffix⟩ := pjfStart_yields s.cfg.rxTimeout { s with
      xchAttempts := s.xchAttempts + 1, txbuf := tx, chk16Acc := acc, crc8Reg := c8, crc32Reg := c32, s9Pmode := pm
      lineTx := line, xchState := .awaitingResponse }
    exact ⟨hheard.rebase (SameReads.unheard {}) rfl fun _ => id, hsuffix⟩

/-- The exchange has ended in the validation of received data: in `Done`, or in `Failed` with an error of that validation
(R329). -/
def Validated (s : State) : Prop :=
  s.xchState = .done ∨ (s.xchState = .failed ∧ (s.errKind = .frameTooShort ∨ s.errKind = .invalidCommandAck))

theorem xchValidate_validated (r : Bytes) (s : State) : SameReads s (xchValidate r s) ∧ Validated (xchValidate r s) := by
  rcases pktResponse_cases r with ⟨k, info, hk, he⟩ | ⟨p, -, he⟩
  · rw [xchValidate_of_err he]
    exact ⟨{}, .inr ⟨rfl, hk⟩⟩
  · rw [xchValidate_of_value he]
    obtain ⟨k, info, l, hanswer⟩ :=
      State.answer_frame (xchPayloadResult s.xchOp p) { s with xchResp := p, xchState := .done }
    rw [hanswer]
    exact ⟨{}, .inl rfl⟩

theorem xchFail_sameReads (k : ErrKind) (info : BitVec 16) (s : State) : SameReads s (xchFail k info s) := by
  rw [xchFail_eq]
  exact {}

/-- An exchange has made nothing readable, or has validated a frame heard. -/
def Exchanged (s : State) (source : Bytes → Prop) (t : State) : Prop :=
  Unheard s t ∨ HoldsFrame s source t ∧ Validated t

/-- However often it tries again, an exchange makes nothing readable, or ends in the validation of a frame heard. -/
theorem xchSettle_reads {s t : State} {source : Bytes → Prop} {n : Nat} {r : OpResult} (h : Yields s source (t, some r))
    (hcfg : t.cfg = s.cfg) (hsuffix : rxqBytes t.rxq <:+ rxqBytes s.rxq) (hwait : ∀ f, FrameWaiting s.rxq f → source f) :
    Exchanged s source (xchSettle n r t) := by
  have value {n : Nat} {t : State} {d : Bytes} (h : Yields s source (t, some (.value d))) :
      Exchanged s source (xchSettle n (.value d) t) := by
    obtain ⟨-, hno⟩ | ⟨-, -, hframe⟩ := h
    · exact absurd rfl (hno d)
    · rw [xchSettle_value]
      obtain ⟨hsame, hvalidated⟩ := xchValidate_validated d t
      exact .inr ⟨hframe.same hsame, hvalidated⟩
  have unheard {t : State} {r : OpResult} (h : Yields s source (t, some r)) (hr : ∀ d, r ≠ .value d) : Unheard s t := by
    obtain ⟨hquiet, -⟩ | ⟨d, hd, -⟩ := h
    · exact hquiet
    · exact absurd (Option.some.inj hd) (hr d)
  induction n generalizing t r with
  | zero =>
    cases r with
    | value d => exact value h
    | noValue => exact .inl ((unheard h fun d hd => by cases hd).trans (xchFail_sameReads _ _ t).unheard)
    | void => exact .inl (unheard h fun d hd => by cases hd)
    | err k info => exact .inl ((unheard h fun d hd => by cases hd).trans (xchFail_sameReads _ _ t).unheard)
  | succ n ih =>
    have retry (hquiet : Unheard s t) (k : ErrKind) (info : BitVec 16) :
        Exchanged s source (match (xchAttempt (xchRetry k info t)).2 with
          | none => (xchAttempt (xchRetry k info t)).1
          | some r => xchSettle n r (xchAttempt (xchRetry k info t)).1) := by
      obtain ⟨hyields, hrest⟩ := xchAttempt_yields (xchRetry k info t)
      have hkept := (xchAttempt_pending (xchRetry k info t)).quiet.cfg
      generalize xchAttempt (xchRetry k info t) = v at *
      obtain ⟨u, _ | r⟩ := v
      · obtain ⟨hnone, -⟩ | ⟨d, hd, -⟩ := hyields
        · exact .inl ((hquiet.trans (SameReads.unheard {})).trans hnone)
        · cases hd
      · refine ih (hyields.rebase (hquiet.trans (SameReads.unheard {})) hcfg fun f hf => hwait f ?_) (hkept.trans hcfg)
          (hrest.trans hsuffix)
        exact (frameWaiting_iff _ f).2 (((frameWaiting_iff _ f).1 hf).of_suffix hsuffix)
    cases r with
    | value d => exact value h
    | noValue =>
      rw [xchSettle_succ_noValue]
      exact retry (unheard h fun d hd => by cases hd) _ _
    | void => exact .inl (unheard h fun d hd => by cases hd)
    | err k info =>
      have hquiet := unheard h fun d hd => by cases hd
      by_cases hk : k.retryable = true
      · rw [xchSettle_succ_err hk]
        exact retry hquiet _ _
      · rw [xchSettle_fatal (Bool.not_eq_true _ ▸ hk)]
        exact .inl (hquiet.trans (xchFail_sameReads _ _ t).unheard)

/-- What the end of a receive makes readable: nothing, or the frame that its result or the exchange's validation is
about. -/
theorem receiveEnded_reads {s : State} {source : Bytes → Prop} {v : State × Option OpResult} (h : Yields s source v)
    (hcfg : v.1.cfg = s.cfg) (hsuffix : rxqBytes v.1.rxq <:+ rxqBytes s.rxq) :
    (v.1.xchState = .awaitingResponse →
        Exchanged s (fun f => source f ∨ FrameWaiting s.rxq f) (receiveEnded v)) ∧
      (v.1.xchState ≠ .awaitingResponse → Unheard s (receiveEnded v) ∨
        HoldsFrame s source (receiveEnded v) ∧ ∃ d, v.2 = some (.value d) ∧ receiveEnded v = v.1.answer (.value d)) := by
  obtain ⟨t, _ | r⟩ := v
  · obtain ⟨hquiet, -⟩ | ⟨d, hd, -⟩ := h
    · exact ⟨fun _ => .inl hquiet, fun _ => .inl hquiet⟩
    · cases hd
  · refine ⟨fun hx => ?_, fun hx => ?_⟩
    · rw [receiveEnded_exchange hx]
      exact xchSettle_reads (h.rebase (SameReads.unheard {}) rfl fun f => .inl) hcfg hsuffix fun f => .inr
    · rw [receiveEnded_standalone hx]
      obtain ⟨hquiet, -⟩ | ⟨d, hd, hframe⟩ := h
      · exact .inl (hquiet.trans (answer_sameReads r t).unheard)
      · cases hd
        exact .inr ⟨hframe.same (answer_sameReads _ t), d, rfl, rfl⟩

/-! One step. -/

/-- A stand-alone receive has answered with data and has ended (R39, R386). -/
def AnsweredData (s t : State) : Prop :=
  (∃ bs, t.rsp = s.rsp ++ [valueRsp bs]) ∧ (s.ReceivesConsistent → NoReceive t)

/-- A step that ends a receive with data: the exchange has validated them, or they are the answer. -/
structure EndsWithData (s t : State) : Prop where
  exchange : s.xchState = .awaitingResponse → Validated t
  standalone : s.xchState ≠ .awaitingResponse → AnsweredData s t

/-- Everything a step can do to `RXBUF` and `PJF.SENDER` as registers that are read (R39). -/
inductive StepReads (s t : State) : Prop
  | unheard (h : Unheard s t)
  | parse (bytes f : Bytes) (rest : List Event) (hev : s.events = .cmd bytes :: rest)
    (hdecode : decode bytes = .ok (.pjonParse f)) (hvalid : t.rxbufValid = s.rxbufValid)
    (hsender : pjonVerdict s.cfg.deviceId f = none ∧ t.readPjfSender = some (f.getD 4 0) ∨
      (t.pjfSenderValid = true → s.pjfSenderValid = true))
  | start (hidle : s.Idle) (hstarts : s.StartsReceive) (hframe : HoldsFrame s (FrameWaiting s.rxq) t)
  | byte (rest : List Event) (hev : s.events = .rxByte 0xEA :: rest) (hlisten : s.pjfRxstate = .listen)
    (hbody : s.escState = .body) (hframe : HoldsFrame s (· = s.rxbuf) t) (hends : EndsWithData s t)
  | retry (hreceives : s.t9State ≠ .off ∨ s.pjfRxstate = .listen) (hx : s.xchState = .awaitingResponse)
    (hframe : HoldsFrame s (FrameWaiting s.rxq) t) (hvalidated : Validated t)
  | capture (h9 : s.t9State ≠ .off) (hsender : t.pjfSenderValid = true → s.pjfSenderValid = true)
    (hends : EndsWithData s t)

section
variable {s t : State} {rest : List Event} {source : Bytes → Prop} {v : State × Option OpResult}

/-- A part of a step is seen from the state with the event still pending. -/
theorem Unheard.of_event (h : Unheard { s with events := rest } t) : Unheard s t := ⟨h.rxbuf, h.sender⟩

theorem AnsweredData.of_answer (hrsp : t.rsp = s.rsp) (hended : s.ReceivesConsistent → NoReceive t) (d : Bytes) :
    AnsweredData s (t.answer (.value d)) := by
  rw [State.answer_value]
  exact ⟨⟨d, congrArg (· ++ [valueRsp d]) hrsp⟩, fun h => ⟨(hended h).t9, (hended h).pjf⟩⟩

/-- An event that a running receive handles: it makes readable the data that it returns, or what a retry hears. -/
theorem stepReads_of_receive (h : Yields { s with events := rest } source v) (hreceives : Receives { s with events := rest } v)
    (hrxq : v.1.rxq = s.rxq) (hrunning : s.t9State ≠ .off ∨ s.pjfRxstate = .listen)
    (hended : ∀ d, v.2 = some (.value d) → s.ReceivesConsistent → NoReceive v.1)
    (hdata : ∀ t, HoldsFrame s source t → EndsWithData s t → StepReads s t) : StepReads s (receiveEnded v) := by
  have hx := hreceives.frame.xchState
  obtain ⟨hexchange, halone⟩ := receiveEnded_reads h hreceives.frame.cfg (by rw [hrxq])
  by_cases hawait : s.xchState = .awaitingResponse
  · obtain hquiet | ⟨hframe, hvalidated⟩ := hexchange (hx.trans hawait)
    · exact .unheard hquiet.of_event
    · obtain hsource | hwaits := hframe.source
      · exact hdata _ ⟨hframe.valid, hframe.verdict, hframe.sender, hsource⟩
          ⟨fun _ => hvalidated, fun h => absurd hawait h⟩
      · exact .retry hrunning hawait ⟨hframe.valid, hframe.verdict, hframe.sender, hwaits⟩ hvalidated
  · obtain hquiet | ⟨hframe, d, hd, he⟩ := halone fun h => hawait (hx.symm.trans h)
    · exact .unheard hquiet.of_event
    · refine hdata _ (hframe.rebase rfl fun _ => id) ⟨fun h => absurd h hawait, fun _ => ?_⟩
      rw [he]
      exact .of_answer hreceives.frame.rsp (hended d hd) d

/-- A command that starts a receive makes readable only a frame that waits. -/
theorem startReads (h : Yields s (FrameWaiting s.rxq) v) (hcfg : v.1.cfg = s.cfg)
    (hsuffix : rxqBytes v.1.rxq <:+ rxqBytes s.rxq) :
    Unheard s (receiveEnded v) ∨ HoldsFrame s (FrameWaiting s.rxq) (receiveEnded v) := by
  obtain ⟨hexchange, halone⟩ := receiveEnded_reads h hcfg hsuffix
  by_cases hawait : v.1.xchState = .awaitingResponse
  · exact (hexchange hawait).imp id fun h => h.1.rebase rfl fun f => Or.rec id id
  · exact (halone hawait).imp id And.left

theorem onTick_stepReads (s : State) (rest : List Event) : StepReads s (onTick { s with events := rest }) := by
  unfold onTick
  split
  · next h9 =>
    have hended : s.ReceivesConsistent → GoesOn Collects (t9Tick { s with events := rest }) := by
      intro hcons
      obtain h | h | h := (receivesConsistent_iff s).1 hcons
      · exact absurd h.t9 h9
      · exact absurd h.t9 h9
      · exact t9Tick_goesOn ⟨h.t9, h.pjf, h.timer, h.empty, h.valid⟩
    have hreceives := t9Tick_receives { s with events := rest }
    obtain hyields | ⟨t, d, he, -, -, hrsp, hsender⟩ := t9Tick_yields (fun _ => False) { s with events := rest }
    · exact stepReads_of_receive hyields hreceives (t9Tick_rxq _) (.inl h9)
        (fun d hd hcons => (hended hcons).ended (by rw [hd]; exact Option.some_ne_none _)) fun t ht => ht.source.elim
    · rw [he] at hended hreceives ⊢
      have hx := hreceives.frame.xchState
      by_cases hawait : s.xchState = .awaitingResponse
      · rw [receiveEnded_value (hx.trans hawait)]
        obtain ⟨hsame, hvalidated⟩ := xchValidate_validated d t
        exact .capture h9 (fun h => hsender (hsame.senderValid ▸ h)) ⟨fun _ => hvalidated, fun h => absurd hawait h⟩
      · rw [receiveEnded_standalone fun h => hawait (hx.symm.trans h)]
        exact .capture h9 (fun h => hsender ((answer_sameReads (.value d) t).senderValid ▸ h))
          ⟨fun h => absurd h hawait,
            fun _ => .of_answer hrsp (fun hcons => (hended hcons).ended (Option.some_ne_none _)) d⟩
  · split
    · next hp =>
      have hyields := pjfTick_yields (fun _ => False) { s with events := rest }
      refine stepReads_of_receive hyields (pjfTick_receives _) (pjfTick_rxq _) (.inr hp)
        (fun d hd => ?_) fun t ht => ht.source.elim
      obtain ⟨-, hno⟩ | ⟨-, -, hframe⟩ := hyields
      · exact absurd hd (hno d)
      · exact hframe.source.elim
    · exact .unheard (SameReads.unheard {})

theorem onRxByte_stepReads {b : Byte} (hev : s.events = .rxByte b :: rest) :
    StepReads s (onRxByte b { s with events := rest }) := by
  unfold onRxByte
  split
  · next hp =>
    refine stepReads_of_receive (pjfByte_yields b _) (pjfByte_receives b _)
      (pjfByte_rxq b _) (.inr hp) (fun d hd hcons => ?_) fun t ht hends => ?_
    · obtain h | h | h := (receivesConsistent_iff s).1 hcons
      · rw [h.pjf] at hp; cases hp
      · have hgoes := pjfByte_goesOn (s := { s with events := rest }) ⟨h.pjf, h.t9, h.timer, h.timeout, h.valid⟩ b
        exact hgoes.ended (by rw [hd]; exact Option.some_ne_none _)
      · rw [h.pjf] at hp; cases hp
    · obtain ⟨rfl, hbody, -⟩ := ht.source
      exact .byte rest hev hp hbody ⟨ht.valid, ht.verdict, ht.sender, ht.source.2.2⟩ hends
  · exact .unheard (SameReads.unheard {})

theorem onRxChar_stepReads (c : BitVec 11) (s : State) (rest : List Event) :
    StepReads s (onRxChar c { s with events := rest }) := by
  unfold onRxChar
  split
  · exact .unheard (t9Char_unheard c _).of_event
  · exact .unheard (SameReads.unheard {})

theorem reset_unheard (p : Params) (s t : State) (h : t = (s.resetWith p) ∨ t = (s.resetWith p).answered voidRsp) :
    Unheard s t := by
  obtain rfl | rfl := h <;> exact ⟨fun h => (by cases h), fun h => (by cases h)⟩

theorem refuseCommand_sameReads (e : DecodeError) (s : State) : SameReads s (refuseCommand e s) := by
  cases e with
  | reservedOpsel op => exact refuse_sameReads _ _ s
  | badOperands op =>
    rw [refuseCommand_badOperands]
    split <;> exact refuse_sameReads _ _ s
  | noOpsel =>
    rw [refuseCommand_noOpsel]
    split <;> exact refuse_sameReads _ _ s

theorem command_stepReads {bytes : Bytes} (hev : s.events = .cmd bytes :: rest)
    (h : runCommand bytes { s with events := rest } = .next t) : StepReads s t := by
  obtain ⟨i, hdecode, hexec⟩ | ⟨e, rfl⟩ := runCommand_cases h
  · by_cases hidle : s.Idle
    · cases exec_idleRun (s := { s with events := rest }) hidle hexec with
      | reset => exact .unheard (reset_unheard _ _ _ (.inr rfl)).of_event
      | short hshort => exact .unheard ⟨hshort.valid, fun h => by rwa [hshort.frame] at h⟩
      | parse f =>
        obtain ⟨hdr, c8, c32, snd, valid, hstate, -⟩ := pjonParse_frame f { s with events := rest }
        have hsame := answer_sameReads (pjonParse f { s with events := rest }).2 (pjonParse f { s with events := rest }).1
        refine .parse bytes f rest hev hdecode (hsame.valid.trans (by rw [hstate])) ?_
        cases hverdict : pjonVerdict s.cfg.deviceId f with
        | none =>
          obtain ⟨-, c8, c32, he⟩ := pjonParse_of_verdict_none (s := { s with events := rest }) hverdict
          exact .inl ⟨rfl, hsame.readPjfSender.trans (by rw [he]; rfl)⟩
        | some e =>
          have hquiet := pjonParse_unheard (s := { s with events := rest }) hverdict
          exact .inr fun h => hquiet.sender (hsame.senderValid ▸ h)
      | t9Recv e ht => exact .unheard (t9Start_unheard _ e _).1.of_event
      | pjonRecv e ht =>
        obtain ⟨hyields, hsuffix⟩ := pjfStart_yields _ { s with events := rest }
        obtain hquiet | hframe := startReads hyields (pjfStart_receives _ _).frame.cfg hsuffix
        · exact .unheard hquiet.of_event
        · exact .start hidle ⟨bytes, rest, _, hev, hdecode, .inl ⟨_, e, rfl⟩⟩ (hframe.rebase rfl fun _ => id)
      | exchange op port ty ad pa e =>
        obtain ⟨hyields, hsuffix⟩ := xchAttempt_yields (xchBegin op (body48 port (exchangeType op ty) ad pa)
          (exchangeExpected op e) { s with events := rest })
        have hcfg := (xchAttempt_pending (xchBegin op (body48 port (exchangeType op ty) ad pa)
          (exchangeExpected op e) { s with events := rest })).quiet.cfg
        obtain hquiet | hframe := startReads hyields hcfg hsuffix
        · exact .unheard ⟨hquiet.rxbuf, hquiet.sender⟩
        · exact .start hidle ⟨bytes, rest, _, hev, hdecode, .inr ⟨op, port, ty, ad, pa, e, rfl⟩⟩
            (hframe.rebase rfl fun _ => id)
    · by_cases hreset : i = .reset
      · subst hreset
        rw [exec_reset] at hexec
        cases hexec
        exact .unheard (reset_unheard _ _ _ (.inr rfl)).of_event
      · rw [busyRefusesEveryOperation { s with events := rest } i hidle hreset] at hexec
        cases hexec
        exact .unheard (SameReads.unheard {})
  · exact .unheard (refuseCommand_sameReads e _).unheard.of_event

theorem step_stepReads (h : step s = .next t) : StepReads s t := by
  unfold step at h
  split at h
  · cases h; exact .unheard (SameReads.unheard {})
  · next e rest hev =>
    cases e with
    | cmd bytes => exact command_stepReads hev h
    | tick => cases h; exact onTick_stepReads s rest
    | rxChar c => cases h; exact onRxChar_stepReads c s rest
    | rxByte b => cases h; exact onRxByte_stepReads hev
    | powerOn p =>
      rw [show runEvent (.powerOn p) _ = powerOn p _ from rfl, powerOn] at h
      split at h
      · cases h; exact .unheard (reset_unheard p _ _ (.inl rfl)).of_event
      · cases h

end

section
variable {s t : State}

theorem State.readRxbuf_eq_none : s.readRxbuf = none ↔ s.rxbufValid = false := by
  cases h : s.rxbufValid <;> simp [State.readRxbuf, h]

theorem State.readPjfSender_eq_none : s.readPjfSender = none ↔ s.pjfSenderValid = false := by
  cases h : s.pjfSenderValid <;> simp [State.readPjfSender, h]

theorem State.readRxbuf_of_valid (h : s.rxbufValid = true) : s.readRxbuf = some s.rxbuf := if_pos h

theorem State.valid_of_readRxbuf (h : s.readRxbuf ≠ none) : s.rxbufValid = true := by
  rwa [Ne, State.readRxbuf_eq_none, Bool.not_eq_false] at h

theorem State.senderValid_of_readPjfSender (h : s.readPjfSender ≠ none) : s.pjfSenderValid = true := by
  rwa [Ne, State.readPjfSender_eq_none, Bool.not_eq_false] at h

/-- While a receive runs `RXBUF` is no frame that may be read. -/
theorem State.ReceivesConsistent.invalid (hcons : s.ReceivesConsistent)
    (hrunning : s.t9State ≠ .off ∨ s.pjfRxstate = .listen) : s.rxbufValid = false := by
  obtain ⟨-, -, -, hinvalid⟩ := hcons
  exact hinvalid hrunning

/-- A step that makes `RXBUF` readable while a receive runs ends that receive with data (R39). -/
theorem endsWithData_of_step (hcons : s.ReceivesConsistent) (hrunning : s.t9State ≠ .off ∨ s.pjfRxstate = .listen)
    (h : step s = .next t) (hread : t.readRxbuf ≠ none) : EndsWithData s t := by
  have hvalid := State.valid_of_readRxbuf hread
  have hno := State.ReceivesConsistent.invalid hcons hrunning
  have hbusy : ¬ s.Idle := by
    rintro ⟨-, h9, hp⟩
    obtain h | h := hrunning
    · exact h h9
    · rw [hp] at h; cases h
  cases step_stepReads h with
  | unheard h => rw [h.rxbuf hvalid] at hno; cases hno
  | parse bytes f rest hev hdecode hsame => rw [hsame.trans hno] at hvalid; cases hvalid
  | start hidle => exact absurd hidle hbusy
  | byte rest hev hlisten hbody hframe hends => exact hends
  | retry hreceives hx hframe hvalidated => exact ⟨fun _ => hvalidated, fun h => absurd hx h⟩
  | capture h9 hsender hends => exact hends

/-- Settles O12: a step makes a register readable only as `StepReads` says. -/
theorem readsWithoutValueAreRefused : Obligations.ReadsWithoutValueAreRefused := by
  refine ⟨fun s h => if_neg h, fun s h => if_pos h, fun s hcons hrunning => ?_, fun s s' hcons hrunning hx hstep hread => ?_,
    fun s s' hcons hrunning hx hstep hread => ?_, fun s s' hidle hstep hnone hread => ?_, fun s f hidle => ?_,
    fun s s' hstep hnone hread => ?_, fun s => ⟨_, exec_reset s, rfl, rfl, rfl⟩⟩
  · exact State.readRxbuf_eq_none.2 (State.ReceivesConsistent.invalid hcons hrunning)
  · obtain ⟨hsent, hended⟩ := (endsWithData_of_step hcons hrunning hstep hread).standalone hx
    exact ⟨hsent, State.readRxbuf_of_valid (State.valid_of_readRxbuf hread), (hended hcons).t9, (hended hcons).pjf⟩
  · exact (endsWithData_of_step hcons hrunning hstep hread).exchange hx
  · have hvalid := State.valid_of_readRxbuf hread
    rw [State.readRxbuf_eq_none] at hnone
    cases step_stepReads hstep with
    | unheard h => rw [h.rxbuf hvalid] at hnone; cases hnone
    | parse bytes f rest hev hdecode hsame => rw [hsame.trans hnone] at hvalid; cases hvalid
    | start hidle hstarts hframe =>
      exact ⟨hstarts, State.readRxbuf_of_valid hvalid, hframe.source, hframe.verdict⟩
    | byte rest hev hlisten => rw [hidle.2.2] at hlisten; cases hlisten
    | retry hreceives hx => exact absurd hx (State.not_awaiting_of_idle hidle)
    | capture h9 => exact absurd hidle.2.1 h9
  · refine ⟨_, exec_pjonParse_of_idle hidle f, (answer_sameReads _ _).readPjfSender.trans ?_⟩
    split
    · next hverdict =>
      obtain ⟨-, c8, c32, he⟩ := pjonParse_of_verdict_none hverdict
      rw [he]
      rfl
    · next info hverdict => exact State.readPjfSender_eq_none.2 ((pjonParse_of_verdict_some hverdict).2.2.1 rfl)
    · next e hremote hverdict =>
      obtain ⟨hsender, hvalid⟩ := (pjonParse_of_verdict_some hverdict).2.2.2 fun hk => hremote e.2 (by rw [← hk])
      rw [State.readPjfSender, hsender, hvalid, State.readPjfSender]
  · have hvalid := State.senderValid_of_readPjfSender hread
    rw [State.readPjfSender_eq_none] at hnone
    cases step_stepReads hstep with
    | unheard h => rw [h.sender hvalid] at hnone; cases hnone
    | parse bytes f rest hev hdecode hsame hsender =>
      obtain ⟨hverdict, hread⟩ | hkept := hsender
      · exact .inl ⟨bytes, f, rest, hev, hdecode, hverdict, hread⟩
      · rw [hkept hvalid] at hnone; cases hnone
    | start hidle hstarts hframe =>
      exact .inr ⟨hframe.verdict, hframe.sender, State.readRxbuf_of_valid hframe.valid, .inr ⟨.inl hstarts, hframe.source⟩⟩
    | byte rest hev hlisten hbody hframe hends =>
      exact .inr ⟨hframe.verdict, hframe.sender, State.readRxbuf_of_valid hframe.valid,
        .inl ⟨rest, hev, hlisten, hbody, hframe.source⟩⟩
    | retry hreceives hx hframe hvalidated =>
      exact .inr ⟨hframe.verdict, hframe.sender, State.readRxbuf_of_valid hframe.valid, .inr ⟨.inr hx, hframe.source⟩⟩
    | capture h9 hsender => rw [hsender hvalid] at hnone; cases hnone

end

end Sys2Proof.Machine
